-- ==== Sys2Proof/Word.lean ====
section
/-! DEFINITION. The number types of the 6420 (spec/00 section 4) and the shape of its sparse tables. -/

namespace Sys2Proof

/-- One byte of a frame (Tables 10-1 and 10-2). -/
abbrev Byte := BitVec 8

/-- A head number, 0–3, fixed by the link port (spec/00 section 2). -/
abbrev Head := Fin 4

/-- A request tag, 0–15 (spec/00 section 4). A frame with a larger tag byte is discarded (R168). -/
abbrev Tag := Fin 16

/-- A shelf number, 0–7 (R20). -/
abbrev ShelfNo := Fin 8

/-- A key: volume number and extent index (spec/00 section 5). -/
abbrev Key := Nat × Nat

/-- A sparse table: (number, record) pairs with the numbers strictly rising.
What a number that is not listed reads as is said by whoever reads the table. -/
abbrev Table (α : Type) := List (Nat × α)

end Sys2Proof
end

