-- ==== Sys2Proof/Machine/Frame.lean ====
section
/-! DEFINITION. The bytes of head link frames: the CRC-16 and the frame check of R168, the request kinds of
Table 10-3, and multi-byte fields, most significant byte first (spec/10 section 10.5). -/

namespace Sys2Proof.Machine

/-- One bit of the CRC-16 of R168: generator polynomial 0x1021, no reflection. -/
def crcBit (c : BitVec 16) : BitVec 16 :=
  if c.msb then (c <<< 1) ^^^ 0x1021#16 else c <<< 1

/-- One byte of the CRC-16 of R168. -/
def crcByte (c : BitVec 16) (b : Byte) : BitVec 16 :=
  let x := c ^^^ (b.setWidth 16 <<< 8)
  crcBit (crcBit (crcBit (crcBit (crcBit (crcBit (crcBit (crcBit x)))))))

/-- The CRC-16 of head links (R168): initial value 0xFFFF, no final inversion. -/
def crc16 (bytes : List Byte) : BitVec 16 := bytes.foldl crcByte 0xFFFF#16

/-- Byte `i` of a number, byte 0 the least significant. -/
def byteOf (n i : Nat) : Byte := BitVec.ofNat 8 (n / 256 ^ i)

/-- A 16-bit field, most significant byte first. -/
def field16 (n : Nat) : List Byte := [byteOf n 1, byteOf n 0]

/-- A 32-bit field, most significant byte first. -/
def field32 (n : Nat) : List Byte := [byteOf n 3, byteOf n 2, byteOf n 1, byteOf n 0]

/-- The number a run of bytes spells, most significant byte first. -/
def spell (bytes : List Byte) : Nat := bytes.foldl (fun n b => n * 256 + b.toNat) 0

/-- A frame's body followed by its CRC-16 (spec/10 section 10.5). -/
def withCrc (body : List Byte) : List Byte := body ++ field16 (crc16 body).toNat

/-- The length of a request frame (Table 10-1). -/
@[simp] abbrev requestLength : Nat := 16

/-- The frame check of R168: wrong length, a CRC-16 that does not match, or a tag byte above 15. -/
def frameBad (bytes : List Byte) : Bool :=
  bytes.length != requestLength
    || spell (bytes.drop 14) != (crc16 (bytes.take 14)).toNat
    || 15 < spell (bytes.take 1)

/-- The kind codes that name a request kind (Table 10-3). -/
def requestKinds : List Nat :=
  [1, 2, 3, 4, 16, 17, 18, 19, 20, 21, 22, 23, 24, 25, 26, 27, 28, 29, 30, 31, 32, 33,
    40, 41, 42, 43, 48, 49, 50, 56, 57, 58, 59, 60, 61]

/-- A kind code names a request kind (R169 step 2). -/
def knownKind (kind : Nat) : Bool := requestKinds.contains kind

end Sys2Proof.Machine
end

