-- ==== Sys2Proof/Syntax.lean ====
section
/-! DEFINITION. The commands of the 6420: one constructor for each row of spec/opcode_table.json.
A request carries its head, its tag and the fields Table 10-3 gives its kind. -/

namespace Sys2Proof

/-- The cause of a shelf's FAULT answer (R119). -/
inductive FaultCause where
  | media
  | source
deriving DecidableEq, Repr

/-- The commands: power and reset, head link events, head requests, shelf events and answers,
timer expiries and job steps. -/
inductive Instr where
  -- power and the reset line (R13); bit s of `links` says that shelf link s is found UP (R20, R37)
  | powerOn (links : BitVec 8)
  | resetLine (links : BitVec 8)
  -- head link events (R165, R167, R168, R169)
  | linkUp (head : Head)
  | linkLoss (head : Head)
  | frameDiscard (head : Head) (bytes : List Byte)
  | badKind (head : Head) (tag : Tag) (kind : Nat)
  -- translation requests (spec/04, spec/05)
  | readMap (head : Head) (tag : Tag) (vol lba count : Nat)
  | writeMap (head : Head) (tag : Tag) (vol lba count : Nat)
  | grantDrop (head : Head) (tag : Tag) (vol ext : Nat)
  | revokeAck (head : Head) (tag : Tag) (vol ext : Nat)
  -- volume requests (spec/08)
  | volMake (head : Head) (tag : Tag) (vol tenant size quota : Nat) (mask : BitVec 8) (mark : Nat)
  | volGrow (head : Head) (tag : Tag) (vol size : Nat)
  | volQuota (head : Head) (tag : Tag) (vol quota : Nat)
  | volMark (head : Head) (tag : Tag) (vol mark : Nat)
  | volMask (head : Head) (tag : Tag) (vol : Nat) (mask : BitVec 8)
  | volFreeze (head : Head) (tag : Tag) (vol : Nat)
  | volThaw (head : Head) (tag : Tag) (vol : Nat)
  | volHold (head : Head) (tag : Tag) (vol : Nat)
  | volUnhold (head : Head) (tag : Tag) (vol : Nat)
  | holdAll (head : Head) (tag : Tag)
  | unholdAll (head : Head) (tag : Tag)
  | holdPin (head : Head) (tag : Tag)
  | volDrop (head : Head) (tag : Tag) (vol : Nat)
  | volTrim (head : Head) (tag : Tag) (vol first count : Nat)
  | volClone (head : Head) (tag : Tag) (vol parent : Nat)
  | volRead (head : Head) (tag : Tag) (vol : Nat)
  -- tenant requests (R52, R53)
  | tenantSet (head : Head) (tag : Tag) (tenant limit : Nat)
  | tenantRead (head : Head) (tag : Tag) (tenant : Nat)
  -- shelf requests (R21, R28, R29, R30)
  | shelfJoin (head : Head) (tag : Tag) (shelf capacity label lowMark reserve baseLevel : Nat) (prezeroed : Bool)
  | shelfTune (head : Head) (tag : Tag) (shelf lowMark reserve baseLevel : Nat)
  | shelfPart (head : Head) (tag : Tag) (shelf : Nat)
  | shelfRead (head : Head) (tag : Tag) (shelf : Nat)
  -- job requests (R160, R161, R162)
  | jobPause (head : Head) (tag : Tag)
  | jobGo (head : Head) (tag : Tag)
  | jobRead (head : Head) (tag : Tag)
  -- link and notice requests (R170, R171, R175, R176, R178)
  | rejoin (head : Head) (tag : Tag)
  | partRead (head : Head) (tag : Tag)
  | noteMask (head : Head) (tag : Tag) (classMask : BitVec 16)
  | notePeek (head : Head) (tag : Tag)
  | noteTake (head : Head) (tag : Tag)
  | faultPop (head : Head) (tag : Tag)
  -- shelf links and shelf answers (R23, R24, R119); an answer carries order tag and order serial
  | shelfLinkDown (shelf : ShelfNo)
  | shelfLinkUp (shelf : ShelfNo)
  | zeroDone (shelf : ShelfNo) (otag serial : Nat)
  | zeroFault (shelf : ShelfNo) (otag serial : Nat) (cause : FaultCause)
  | copyDone (shelf : ShelfNo) (otag serial : Nat)
  | copyFault (shelf : ShelfNo) (otag serial : Nat) (cause : FaultCause)
  | labelReadDone (shelf : ShelfNo) (otag serial label : Nat)
  | labelReadFault (shelf : ShelfNo) (otag serial : Nat) (cause : FaultCause)
  | labelWriteDone (shelf : ShelfNo) (otag serial : Nat)
  | labelWriteFault (shelf : ShelfNo) (otag serial : Nat) (cause : FaultCause)
  | lateAnswer (shelf : ShelfNo) (otag serial : Nat) (frameOk : Bool)
  -- timer expiries (R122, R25, R36, R130, R90)
  | orderTimeout (shelf : ShelfNo) (otag : Nat)
  | reverifyExpiry (shelf : ShelfNo)
  | settleExpiry (shelf : ShelfNo)
  | scrubStepExpiry (shelf : ShelfNo)
  | revokeExpiry (vol ext : Nat)
  -- Sweep Engine steps (R151, R158)
  | jobStep
  | cloneCopyStep
deriving DecidableEq, Repr

end Sys2Proof
end

