-- ==== Sys2Proof/WellFormed.lean ====
section
/-! DEFINITION. Well-formed commands: every operand fits the frame field, the answer field or the
number range that carries it (Tables 10-1 and 10-3, R6, R84, R121), and an event is what its name says. -/

namespace Sys2Proof

/-- A 16-bit field of a request frame. -/
abbrev fits16 (n : Nat) : Bool := n < 65536

/-- A 32-bit field of a request frame. -/
abbrev fits32 (n : Nat) : Bool := n < 4294967296

/-- An order tag (0–31) and an order serial (0–65,535) of a shelf answer (R121). -/
abbrev fitsAnswer (otag serial : Nat) : Bool := otag < 32 && serial < 65536

/-- The command can arrive as its row says: its operands fit their fields. -/
def Instr.wellFormed : Instr → Bool
  | .powerOn _ | .resetLine _ | .linkUp _ | .linkLoss _ => true
  | .frameDiscard _ bytes => Machine.frameBad bytes
  | .badKind _ _ kind => kind < 256 && !Machine.knownKind kind
  | .readMap _ _ vol lba count | .writeMap _ _ vol lba count => fits16 vol && fits32 lba && fits16 count
  | .grantDrop _ _ vol ext | .revokeAck _ _ vol ext => fits16 vol && fits32 ext
  | .volMake _ _ vol tenant size quota _ mark =>
      fits16 vol && tenant < 256 && fits32 size && quota < 16777216 && mark < 256
  | .volGrow _ _ vol size => fits16 vol && fits32 size
  | .volQuota _ _ vol quota => fits16 vol && fits32 quota
  | .volMark _ _ vol mark => fits16 vol && fits16 mark
  | .volMask _ _ vol _ => fits16 vol
  | .volFreeze _ _ vol | .volThaw _ _ vol | .volHold _ _ vol | .volUnhold _ _ vol => fits16 vol
  | .holdAll _ _ | .unholdAll _ _ | .holdPin _ _ => true
  | .volDrop _ _ vol | .volRead _ _ vol => fits16 vol
  | .volTrim _ _ vol first count => fits16 vol && fits32 first && fits32 count
  | .volClone _ _ vol parent => fits16 vol && fits16 parent
  | .tenantSet _ _ tenant limit => fits16 tenant && fits32 limit
  | .tenantRead _ _ tenant => fits16 tenant
  | .shelfJoin _ _ shelf capacity label lowMark reserve baseLevel _ =>
      shelf < 256 && 1 ≤ capacity && capacity ≤ 65536 && fits32 label && fits16 lowMark && fits16 reserve
        && baseLevel < 16
  | .shelfTune _ _ shelf lowMark reserve baseLevel =>
      shelf < 256 && fits16 lowMark && fits16 reserve && baseLevel < 16
  | .shelfPart _ _ shelf | .shelfRead _ _ shelf => shelf < 256
  | .jobPause _ _ | .jobGo _ _ | .jobRead _ _ | .rejoin _ _ | .partRead _ _ | .noteMask _ _ _
  | .notePeek _ _ | .noteTake _ _ | .faultPop _ _ => true
  | .shelfLinkDown _ | .shelfLinkUp _ => true
  | .zeroDone _ otag serial | .copyDone _ otag serial | .labelWriteDone _ otag serial => fitsAnswer otag serial
  | .zeroFault _ otag serial _ | .copyFault _ otag serial _ | .labelReadFault _ otag serial _
  | .labelWriteFault _ otag serial _ => fitsAnswer otag serial
  | .labelReadDone _ otag serial label => fitsAnswer otag serial && fits32 label
  | .lateAnswer _ _ _ _ => true
  | .orderTimeout _ otag => otag < 32
  | .reverifyExpiry _ | .settleExpiry _ | .scrubStepExpiry _ => true
  | .revokeExpiry vol ext => vol < 1024 && ext < 1048576
  | .jobStep | .cloneCopyStep => true

/-- The command is a request of a head, which Table 10-3 gives a kind code. -/
def Instr.isRequest : Instr → Bool
  | .powerOn _ | .resetLine _ | .linkUp _ | .linkLoss _ | .frameDiscard _ _ | .badKind _ _ _ => false
  | .shelfLinkDown _ | .shelfLinkUp _ | .zeroDone _ _ _ | .zeroFault _ _ _ _ | .copyDone _ _ _
  | .copyFault _ _ _ _ | .labelReadDone _ _ _ _ | .labelReadFault _ _ _ _ | .labelWriteDone _ _ _
  | .labelWriteFault _ _ _ _ | .lateAnswer _ _ _ _ | .orderTimeout _ _ | .reverifyExpiry _
  | .settleExpiry _ | .scrubStepExpiry _ | .revokeExpiry _ _ | .jobStep | .cloneCopyStep => false
  | .readMap .. | .writeMap .. | .grantDrop .. | .revokeAck .. | .volMake .. | .volGrow .. | .volQuota ..
  | .volMark .. | .volMask .. | .volFreeze .. | .volThaw .. | .volHold .. | .volUnhold .. | .holdAll ..
  | .unholdAll .. | .holdPin .. | .volDrop .. | .volTrim .. | .volClone .. | .volRead .. | .tenantSet ..
  | .tenantRead .. | .shelfJoin .. | .shelfTune .. | .shelfPart .. | .shelfRead .. | .jobPause ..
  | .jobGo .. | .jobRead .. | .rejoin .. | .partRead .. | .noteMask .. | .notePeek .. | .noteTake ..
  | .faultPop .. => true

end Sys2Proof
end

