-- ==== Sys2Proof/Decode.lean ====
section
/-! DEFINITION. From the bytes on a head link to a command (R168, R169, Tables 10-1 and 10-3), total on any
bytes, and the encoder written from the same tables. `decodeTableWord` answers none: no row of
spec/opcode_table.json gives bits. -/

namespace Sys2Proof

open Sys2Proof.Machine

/-- The request whose kind code is `kind` (Table 10-3), from the Volume field and parameters A, B and C.
A kind that no row names is BAD_KIND (R169 step 2). The frame has passed R168, so its tag fits. -/
def decodeRequest (h : Head) (t : Tag) (kind vol a b c : Nat) : Instr :=
  match kind with
  | 1 => .readMap h t vol a c
  | 2 => .writeMap h t vol a c
  | 3 => .grantDrop h t vol a
  | 4 => .revokeAck h t vol a
  | 16 => .volMake h t vol (b / 16777216) a (b % 16777216) (BitVec.ofNat 8 (c / 256)) (c % 256)
  | 17 => .volGrow h t vol a
  | 18 => .volQuota h t vol a
  | 19 => .volMark h t vol c
  | 20 => .volMask h t vol (BitVec.ofNat 8 (c % 256))
  | 21 => .volFreeze h t vol
  | 22 => .volThaw h t vol
  | 23 => .volHold h t vol
  | 24 => .volUnhold h t vol
  | 25 => .holdAll h t
  | 26 => .unholdAll h t
  | 27 => .holdPin h t
  | 28 => .volDrop h t vol
  | 29 => .volTrim h t vol a b
  | 30 => .volClone h t vol c
  | 31 => .volRead h t vol
  | 32 => .tenantSet h t c a
  | 33 => .tenantRead h t c
  | 40 => .shelfJoin h t (vol % 256) (c + 1) b (a / 65536) (a % 65536) (vol / 256 % 16) (vol.testBit 15)
  | 41 => .shelfTune h t (vol % 256) (a / 65536) (a % 65536) (vol / 256 % 16)
  | 42 => .shelfPart h t (vol % 256)
  | 43 => .shelfRead h t (vol % 256)
  | 48 => .jobPause h t
  | 49 => .jobGo h t
  | 50 => .jobRead h t
  | 56 => .rejoin h t
  | 57 => .partRead h t
  | 58 => .noteMask h t (BitVec.ofNat 16 c)
  | 59 => .notePeek h t
  | 60 => .noteTake h t
  | 61 => .faultPop h t
  | _ => .badKind h t kind

/-- What a frame received from head `h` is to the part: FRAME_DISCARD when it fails the check of R168,
else the request its kind names, else BAD_KIND (R169). -/
def decodeFrame (h : Head) (bytes : List Byte) : Instr :=
  if frameBad bytes then .frameDiscard h bytes
  else
    decodeRequest h (Fin.ofNat 16 (spell (bytes.take 1))) (spell ((bytes.drop 1).take 1))
      (spell ((bytes.drop 2).take 2)) (spell ((bytes.drop 4).take 4)) (spell ((bytes.drop 8).take 4))
      (spell ((bytes.drop 12).take 2))

/-- A request frame of Table 10-1. -/
def requestFrame (t : Tag) (kind vol a b c : Nat) : List Byte :=
  withCrc ([byteOf t.val 0, byteOf kind 0] ++ field16 vol ++ field32 a ++ field32 b ++ field16 c)

/-- The Volume field of SHELF-JOIN and SHELF-TUNE (Table 10-3): shelf in the low byte, base level in
bits 11–8, pre-zeroed flag in bit 15. -/
def shelfField (shelf baseLevel : Nat) (prezeroed : Bool) : Nat :=
  shelf + baseLevel * 256 + (if prezeroed then 32768 else 0)

/-- The request frame of a request (Tables 10-1 and 10-3); fields its kind does not use are 0.
None for a command that is no request. -/
def encodeFrame : Instr → Option (List Byte)
  | .readMap _ t vol lba count => some (requestFrame t 1 vol lba 0 count)
  | .writeMap _ t vol lba count => some (requestFrame t 2 vol lba 0 count)
  | .grantDrop _ t vol ext => some (requestFrame t 3 vol ext 0 0)
  | .revokeAck _ t vol ext => some (requestFrame t 4 vol ext 0 0)
  | .volMake _ t vol tenant size quota mask mark =>
      some (requestFrame t 16 vol size (tenant * 16777216 + quota) (mask.toNat * 256 + mark))
  | .volGrow _ t vol size => some (requestFrame t 17 vol size 0 0)
  | .volQuota _ t vol quota => some (requestFrame t 18 vol quota 0 0)
  | .volMark _ t vol mark => some (requestFrame t 19 vol 0 0 mark)
  | .volMask _ t vol mask => some (requestFrame t 20 vol 0 0 mask.toNat)
  | .volFreeze _ t vol => some (requestFrame t 21 vol 0 0 0)
  | .volThaw _ t vol => some (requestFrame t 22 vol 0 0 0)
  | .volHold _ t vol => some (requestFrame t 23 vol 0 0 0)
  | .volUnhold _ t vol => some (requestFrame t 24 vol 0 0 0)
  | .holdAll _ t => some (requestFrame t 25 0 0 0 0)
  | .unholdAll _ t => some (requestFrame t 26 0 0 0 0)
  | .holdPin _ t => some (requestFrame t 27 0 0 0 0)
  | .volDrop _ t vol => some (requestFrame t 28 vol 0 0 0)
  | .volTrim _ t vol first count => some (requestFrame t 29 vol first count 0)
  | .volClone _ t vol parent => some (requestFrame t 30 vol 0 0 parent)
  | .volRead _ t vol => some (requestFrame t 31 vol 0 0 0)
  | .tenantSet _ t tenant limit => some (requestFrame t 32 0 limit 0 tenant)
  | .tenantRead _ t tenant => some (requestFrame t 33 0 0 0 tenant)
  | .shelfJoin _ t shelf capacity label lowMark reserve baseLevel prezeroed =>
      some (requestFrame t 40 (shelfField shelf baseLevel prezeroed) (lowMark * 65536 + reserve) label (capacity - 1))
  | .shelfTune _ t shelf lowMark reserve baseLevel =>
      some (requestFrame t 41 (shelfField shelf baseLevel false) (lowMark * 65536 + reserve) 0 0)
  | .shelfPart _ t shelf => some (requestFrame t 42 shelf 0 0 0)
  | .shelfRead _ t shelf => some (requestFrame t 43 shelf 0 0 0)
  | .jobPause _ t => some (requestFrame t 48 0 0 0 0)
  | .jobGo _ t => some (requestFrame t 49 0 0 0 0)
  | .jobRead _ t => some (requestFrame t 50 0 0 0 0)
  | .rejoin _ t => some (requestFrame t 56 0 0 0 0)
  | .partRead _ t => some (requestFrame t 57 0 0 0 0)
  | .noteMask _ t classMask => some (requestFrame t 58 0 0 0 classMask.toNat)
  | .notePeek _ t => some (requestFrame t 59 0 0 0 0)
  | .noteTake _ t => some (requestFrame t 60 0 0 0 0)
  | .faultPop _ t => some (requestFrame t 61 0 0 0 0)
  | .powerOn _ | .resetLine _ | .linkUp _ | .linkLoss _ | .frameDiscard _ _ | .badKind _ _ _ => none
  | .shelfLinkDown _ | .shelfLinkUp _ | .zeroDone _ _ _ | .zeroFault _ _ _ _ | .copyDone _ _ _
  | .copyFault _ _ _ _ | .labelReadDone _ _ _ _ | .labelReadFault _ _ _ _ | .labelWriteDone _ _ _
  | .labelWriteFault _ _ _ _ | .lateAnswer _ _ _ _ | .orderTimeout _ _ | .reverifyExpiry _
  | .settleExpiry _ | .scrubStepExpiry _ | .revokeExpiry _ _ | .jobStep | .cloneCopyStep => none

/-- The head whose link carries a request. -/
def Instr.sender : Instr → Head
  | .readMap h .. | .writeMap h .. | .grantDrop h .. | .revokeAck h .. | .volMake h .. | .volGrow h ..
  | .volQuota h .. | .volMark h .. | .volMask h .. | .volFreeze h .. | .volThaw h .. | .volHold h ..
  | .volUnhold h .. | .holdAll h .. | .unholdAll h .. | .holdPin h .. | .volDrop h .. | .volTrim h ..
  | .volClone h .. | .volRead h .. | .tenantSet h .. | .tenantRead h .. | .shelfJoin h .. | .shelfTune h ..
  | .shelfPart h .. | .shelfRead h .. | .jobPause h .. | .jobGo h .. | .jobRead h .. | .rejoin h ..
  | .partRead h .. | .noteMask h .. | .notePeek h .. | .noteTake h .. | .faultPop h .. => h
  | .linkUp h | .linkLoss h | .frameDiscard h _ | .badKind h _ _ => h
  | .powerOn _ | .resetLine _ | .shelfLinkDown _ | .shelfLinkUp _ | .zeroDone _ _ _ | .zeroFault _ _ _ _
  | .copyDone _ _ _ | .copyFault _ _ _ _ | .labelReadDone _ _ _ _ | .labelReadFault _ _ _ _
  | .labelWriteDone _ _ _ | .labelWriteFault _ _ _ _ | .lateAnswer _ _ _ _ | .orderTimeout _ _
  | .reverifyExpiry _ | .settleExpiry _ | .scrubStepExpiry _ | .revokeExpiry _ _ | .jobStep
  | .cloneCopyStep => 0

/-- The command that a table word spells: none, since no row of spec/opcode_table.json gives bits. -/
def decodeTableWord (_nbits _w : Nat) : Option Instr := none

end Sys2Proof
end

