-- ==== Sys2Proof/Config.lean ====
section
/-! DEFINITION. The sizes and intervals of spec/00 section 4, and the one value the spec leaves free. -/

namespace Sys2Proof.Config

/-- Blocks in an extent (R1). -/
@[simp] abbrev extentBlocks : Nat := 1024

/-- Volume records (R2). -/
@[simp] abbrev volumes : Nat := 1024

/-- The largest virtual size in extents (R2). -/
@[simp] abbrev maxSize : Nat := 1048576

/-- The largest extent index a key may name in GRANT-DROP and REVOKE-ACK (R70, R88). -/
@[simp] abbrev maxExtent : Nat := 1048575

/-- Map entries in a page (R4). -/
@[simp] abbrev pageEntries : Nat := 256

/-- Map pages (R46). -/
@[simp] abbrev pages : Nat := 65536

/-- Tenant records (R49). -/
@[simp] abbrev tenants : Nat := 256

/-- Family records (R9). -/
@[simp] abbrev families : Nat := 1024

/-- Members of one family at most (R9). -/
@[simp] abbrev familyMax : Nat := 64

/-- Grant table entries (R79). -/
@[simp] abbrev grantMax : Nat := 16384

/-- Revocation records (R84). -/
@[simp] abbrev revMax : Nat := 64

/-- Open RECLAIM records at most (R82). -/
@[simp] abbrev reclaimMax : Nat := 8

/-- Held list entries (R71). -/
@[simp] abbrev heldMax : Nat := 32

/-- COW records (R102). -/
@[simp] abbrev cowMax : Nat := 128

/-- Downgrade pass records (R95). -/
@[simp] abbrev passMax : Nat := 4

/-- Orders waiting on one shelf at most (R120). -/
@[simp] abbrev orderMax : Nat := 64

/-- Order tags of one shelf (R121). -/
@[simp] abbrev orderTags : Nat := 32

/-- ZERO orders of one shelf waiting or in flight at most (R125, R127). -/
@[simp] abbrev zeroMax : Nat := 4

/-- Jobs in the queue at most (R150). -/
@[simp] abbrev jobMax : Nat := 5

/-- The revoke window in ms (R84). -/
@[simp] abbrev revokeWindow : Nat := 40

/-- The re-verify interval in ms (R25). -/
@[simp] abbrev reverifyTime : Nat := 5000

/-- The pool settle interval in ms (R36). -/
@[simp] abbrev settleTime : Nat := 250

/-- The scrub level step interval in ms (R130). -/
@[simp] abbrev stepTime : Nat := 250

/-- The value a result word carries for an absent field (R172). -/
@[simp] abbrev absentWord : Nat := 4294967295

/-- FREE VALUE (log entry 4): R4 and R45 take "a map page from the pool" and do not say which.
The n-th page taken is looked for from this page number on. It has no body, so nothing can be proved of it. -/
opaque pageChoice : Nat → Nat

end Sys2Proof.Config
end

