-- ==== Sys2Proof/Machine/State.lean ====
section
/-! DEFINITION. The state of the 6420, every piece of it that the spec names (INVENTORY.md, State), as plain data. -/

namespace Sys2Proof.Machine

/-! ### Volumes, maps, families and tenants (Map Store) -/

/-- Volume states (R2, R133). -/
inductive VolState where
  | free | active | frozen | building | source | deleting
deriving DecidableEq, Repr

/-- What a SOURCE volume returns to (R2). -/
inductive PriorState where
  | active | frozen
deriving DecidableEq, Repr

/-- A map entry (R6). -/
inductive MapEntry where
  | unmapped
  | mapped (shelf : ShelfNo) (slot : Nat)
  | pending (shelf : ShelfNo) (slot : Nat) (cow : Nat)
deriving DecidableEq, Repr

/-- A map page in use, held in the one directory slot that names it (R5; log entry 20). An entry that is
not listed is UNMAPPED. -/
structure Page where
  number : Nat
  entries : Table MapEntry
deriving DecidableEq, Repr

/-- A volume record (R2). A directory slot that is not listed is absent. -/
structure Volume where
  state : VolState
  prior : Option PriorState
  tenant : Nat
  family : Nat
  size : Nat
  quota : Nat
  allocated : Nat
  mask : BitVec 8
  mark : Nat
  crossed : Bool
  hold : Bool
  cursor : ShelfNo
  dir : Table Page
  pageCount : Nat
deriving DecidableEq, Repr

/-- The values of a FREE record (R3). -/
def Volume.freeRecord : Volume :=
  { state := .free, prior := none, tenant := 0, family := 0, size := 0, quota := 0, allocated := 0,
    mask := 0, mark := 0, crossed := false, hold := false, cursor := 0, dir := [], pageCount := 0 }

/-- A tenant record (R49). -/
structure Tenant where
  limit : Nat
  charged : Nat
  promised : Nat
  volumes : Nat
deriving DecidableEq, Repr

/-- The initial tenant record (R49). -/
def Tenant.initial : Tenant := { limit := 0, charged := 0, promised := 0, volumes := 0 }

/-! ### Notices and replies -/

/-- Notice classes (R173, Table 10-2). -/
inductive NoticeClass where
  | revoke | fence | shelf | job | volume | part
deriving DecidableEq, Repr

/-- A notice with the fields of Table 10-2 (R173). -/
structure Notice where
  cls : NoticeClass
  detail : Nat
  subject : Nat
  valueA : Nat
  valueB : Nat
  missed : Nat
deriving DecidableEq, Repr

/-- One value for each maskable notice class (R174). -/
structure PerClass (α : Type) where
  shelf : α
  job : α
  volume : α
  part : α
deriving DecidableEq, Repr

/-- Reply status (Table 10-4). -/
inductive Status where
  | ok | badParam | range | noVolume | gone | frozen | sourceBusy | trimming | quota | tenantLimit | noPage
  | noSpace | shelfDown | media | fenced | backlog | tagBusy | badKind | stale | exists_ | volumeBusy | onHold
  | pinned | familyFull | jobFull | notRunning | notPaused | noShelf | shelfBusy
deriving DecidableEq, Repr

/-- Kinds of a reply segment (Table 10-2). -/
inductive SegmentKind where
  | data | hole | down
deriving DecidableEq, Repr

/-- A reply segment (Table 10-2). HOLE carries shelf 0 and block 0. -/
structure Segment where
  kind : SegmentKind
  shelf : ShelfNo
  block : Nat
  length : Nat
  write : Bool
deriving DecidableEq, Repr

/-- What a reply carries after its status: segments or result words (Table 10-2). -/
inductive ReplyBody where
  | words (ws : List Nat)
  | segments (ss : List Segment)
deriving DecidableEq, Repr

/-! ### Shelves -/

/-- Shelf states (section 2.2). -/
inductive ShelfState where
  | absent | joining | verifying | online | offline | mismatch
deriving DecidableEq, Repr

/-- Pool condition (R35). -/
inductive PoolCond where
  | normal | low
deriving DecidableEq, Repr

/-- PET states (R31). -/
inductive SlotState where
  | free | inUse | scrubWait | scrubbing | copyTarget | retired | label
deriving DecidableEq, Repr

/-- A PET entry (R31). -/
structure PetEntry where
  state : SlotState
  refs : Nat
deriving DecidableEq, Repr

/-- An order (R118). A COPY names the COW record that owns it. -/
inductive Order where
  | zero (slot : Nat)
  | copy (srcShelf : ShelfNo) (srcSlot dstSlot : Nat) (cow : Nat)
  | labelRead (slot : Nat)
  | labelWrite (slot : Nat) (label : Nat)
deriving DecidableEq, Repr

/-- An order in flight: its tag, its serial (R121) and the time its timer expires (R122). -/
structure InFlight where
  tag : Nat
  serial : Nat
  order : Order
  deadline : Nat
deriving DecidableEq, Repr

/-- A requester whose answer waits for work in progress, with the fenced mark (R92 stage 3) and the
detached mark (R69, R167). -/
structure Waiter where
  head : Head
  tag : Tag
  fenced : Bool
  detached : Bool
deriving DecidableEq, Repr

/-- A join in progress (R21). -/
structure Join where
  who : Waiter
  prezeroed : Bool
deriving DecidableEq, Repr

/-- A shelf record with its PET (R20, R31 to R33), and the volatile state of its Shelf Order Unit
(R20, R120, R121, R125, R130). A timer holds the time it expires; none when it does not run. -/
structure Shelf where
  state : ShelfState
  capacity : Nat
  label : Nat
  lowMark : Nat
  reserve : Nat
  baseLevel : Nat
  cond : PoolCond
  retired : Nat
  pet : List PetEntry
  freeList : List Nat
  scrubQueue : List Nat
  linkUp : Bool
  timeouts : Nat
  reverify : Option Nat
  settle : Option Nat
  stepTimer : Option Nat
  level : Nat
  orders : List Order
  inFlight : List InFlight
  serial : Nat
  fgCount : Nat
  join : Option Join
deriving DecidableEq, Repr

/-- A shelf as the part leaves the factory: the ABSENT values of R20, no timer, no order (R132), and its
link DOWN (log entry 9). -/
def Shelf.initial : Shelf :=
  { state := .absent, capacity := 0, label := 0, lowMark := 0, reserve := 0, baseLevel := 0, cond := .normal,
    retired := 0, pet := [], freeList := [], scrubQueue := [], linkUp := false, timeouts := 0, reverify := none,
    settle := none, stepTimer := none, level := 0, orders := [], inFlight := [], serial := 0, fgCount := 0,
    join := none }

/-! ### Heads -/

/-- Head link states (R165). -/
inductive LinkState where
  | dark | up | fenced
deriving DecidableEq, Repr

/-- How a COPY order can end without DONE (section 6.4), the cause of a fault record (R113, R178). -/
inductive CopyFail where
  | media | source | timeout | link
deriving DecidableEq, Repr

/-- A fault record (R178). Its order kind is COPY in every record (R113). -/
structure FaultRec where
  shelf : ShelfNo
  slot : Nat
  cause : CopyFail
deriving DecidableEq, Repr

/-- Head Link Unit and Notice Unit state of one head (R165, R168, R169, R174, R178). `tags` lists the
outstanding tags, the latest first. A mask that is set masks its class. -/
structure HeadRec where
  link : LinkState
  tags : List Tag
  errors : Nat
  masks : PerClass Bool
  pending : PerClass (Option Notice)
  fence : Option Notice
  faultFirst : Option FaultRec
  faultSecond : Option FaultRec
deriving DecidableEq, Repr

/-- A head after power-on and after the reset line (R166, R179). -/
def HeadRec.initial : HeadRec :=
  { link := .dark, tags := [], errors := 0, masks := ⟨true, true, true, true⟩,
    pending := ⟨none, none, none, none⟩, fence := none, faultFirst := none, faultSecond := none }

/-! ### Jobs -/

/-- What a job does, with the fields its kind has (R149). -/
inductive JobWork where
  | delete (vol : Nat)
  | trim (vol first count : Nat)
  | clone (vol parent : Nat)
deriving DecidableEq, Repr

/-- Job states (R150). -/
inductive JobState where
  | waiting | running | paused
deriving DecidableEq, Repr

/-- A job record (R149). `endIdx` is not used for CLONE. -/
structure Job where
  number : Nat
  work : JobWork
  cursor : Nat
  endIdx : Nat
  state : JobState
  processed : Nat
deriving DecidableEq, Repr

/-- What the head job's step waits for (R152, R154, R157), with the key concerned. PASS is not held here:
it is read off the pass records (R158). -/
inductive JobWait where
  | none
  | keyRecord (vol ext : Nat)
  | revocation (vol ext : Nat)
  | record (vol ext : Nat)
  | cow (vol ext : Nat)
  | endWait
deriving DecidableEq, Repr

/-! ### Grants, revocations and passes -/

/-- The kind of a grant (R79). -/
inductive GrantKind where
  | read | write
deriving DecidableEq, Repr

/-- A grant entry: a key and one holder slot for each head (R79). -/
structure Grant where
  vol : Nat
  ext : Nat
  holders : Vector (Option GrantKind) 4
deriving DecidableEq, Repr

/-- Revocation reasons (R84). -/
inductive RevReason where
  | alloc | cow | trim | delete | downgrade | reclaim
deriving DecidableEq, Repr

/-- The waiting party of a revocation record (R84). `orphan` is a record whose COW gave up (R112). -/
inductive RevParty where
  | reply (id : Nat)
  | cow (record : Nat)
  | job
  | pass (seq : Nat)
  | reclaim
  | orphan
deriving DecidableEq, Repr

/-- A revocation record in use (R84). The awaited heads are listed in rising order. -/
structure Rev where
  vol : Nat
  ext : Nat
  reason : RevReason
  awaited : List Head
  expiry : Nat
  party : RevParty
deriving DecidableEq, Repr

/-- The cause and waiting party of a downgrade pass (R95). -/
inductive PassCause where
  | freeze (who : Waiter)
  | clone (job : Nat)
deriving DecidableEq, Repr

/-- A downgrade pass record in use (R95). `seq` is its start order, `todo` its extent indexes in rising
order, `waiting` the ready key at which it stopped for want of a record (R86, R97). -/
structure Pass where
  seq : Nat
  vol : Nat
  cause : PassCause
  todo : List Nat
  outstanding : Nat
  waiting : Option Nat
deriving DecidableEq, Repr

/-! ### Copy-on-write, held requests and reply records -/

/-- A COW record in use (R102): O, N, whether the copy is COPIED and the revocation CLEAR, the attempt, and
the requester with the reply record and the segment it serves. -/
structure Cow where
  vol : Nat
  ext : Nat
  oldShelf : ShelfNo
  oldSlot : Nat
  newShelf : ShelfNo
  newSlot : Nat
  copied : Bool
  clear : Bool
  attempt : Nat
  head : Head
  tag : Tag
  reply : Nat
  seg : Nat
deriving DecidableEq, Repr

/-- A request that can be held (R71). -/
inductive HeldReq where
  | readMap (vol lba count : Nat)
  | writeMap (vol lba count : Nat)
  | volFreeze (vol : Nat)
  | volClone (vol parent : Nat)
deriving DecidableEq, Repr

/-- A hold reason, and the resource whose release ends it (R71, R73). -/
inductive Reason where
  | key (vol ext : Nat)
  | revokeRoom
  | cowRoom
  | grantRoom
  | orderRoom (shelf : ShelfNo)
  | passRoom
deriving DecidableEq, Repr

/-- A held list entry (R71). -/
structure Held where
  head : Head
  tag : Tag
  req : HeldReq
  reason : Reason
  seq : Nat
deriving DecidableEq, Repr

/-- The three kinds of a WRITE-MAP segment at its commit (section 4.3). -/
inductive SegKind where
  | fresh | unshared | shared
deriving DecidableEq, Repr

/-- A segment of a committed WRITE-MAP (R64), and whether a WRITE grant was given for it (R68). -/
structure ReplySeg where
  kind : SegKind
  ext : Nat
  offset : Nat
  length : Nat
  granted : Bool
deriving DecidableEq, Repr

/-- A reply record (R64). `media` says that its outcome is MEDIA. `id` is the model's name for it. -/
structure ReplyRec where
  id : Nat
  who : Waiter
  vol : Nat
  segs : List ReplySeg
  waits : Nat
  media : Bool
deriving DecidableEq, Repr

/-! ### What leaves the part -/

/-- A frame on a head link or an order on a shelf link (section 2 of spec/00; log entry 3). -/
inductive Sent where
  | reply (head : Head) (tag : Tag) (status : Status) (body : ReplyBody)
  | notice (head : Head) (n : Notice)
  | order (shelf : ShelfNo) (otag serial : Nat) (o : Order)
deriving DecidableEq, Repr

/-- Start causes (R166). -/
inductive StartCause where
  | powerOn | resetLine
deriving DecidableEq, Repr

/-! ### The state -/

/-- The state of the part, and the queue of commands that wait. -/
structure State where
  heads : Vector HeadRec 4
  shelves : Vector Shelf 8
  startCause : StartCause
  volumes : Table Volume
  families : Table Nat
  tenants : Table Tenant
  poolFree : Nat
  reserved : Nat
  pin : Bool
  jobs : List Job
  nextJob : Nat
  jobWait : JobWait
  pause : Option Waiter
  grants : List Grant
  reclaim : Bool
  revs : List Rev
  passes : List Pass
  cows : Table Cow
  held : List Held
  replies : List ReplyRec
  heldSeq : Nat
  passSeq : Nat
  replySeq : Nat
  pageDraws : Nat
  now : Nat
  sent : List Sent
  pending : List Instr
deriving DecidableEq, Repr

/-- A factory part just after power-on: the initial Map Store of R11 and the volatile values of R101, R132,
R166 and R179. The model's own fields and the shelf links are as log entries 9 and 10 say. -/
def State.reset : State :=
  { heads := Vector.replicate 4 HeadRec.initial, shelves := Vector.replicate 8 Shelf.initial,
    startCause := .powerOn, volumes := [], families := [], tenants := [], poolFree := 65536, reserved := 0,
    pin := false, jobs := [], nextJob := 0, jobWait := .none, pause := none, grants := [], reclaim := false,
    revs := [], passes := [], cows := [], held := [], replies := [], heldSeq := 0, passSeq := 0, replySeq := 0,
    pageDraws := 0, now := 0, sent := [], pending := [] }

/-- Reasons the part stops with a fault: none. The spec gives every command an effect or a reply
status, so nothing raises a fault; safe. -/
inductive Fault where
deriving DecidableEq, Repr

/-- Reasons a command has no meaning. -/
inductive Refusal where
  /-- The command's arm has no meaning yet. No arm of exec raises it: every command is modelled; safe. -/
  | notModelled (mnemonic : String)
deriving DecidableEq, Repr

end Sys2Proof.Machine
end

