-- ==== Sys2Proof/Machine/Codes.lean ====
section
/-! DEFINITION. The codes of Tables 10-2 and 10-4 and of R172 and R173, and the bytes of reply and notice frames. -/

namespace Sys2Proof.Machine

/-- Status codes (Table 10-4). -/
def Status.code : Status → Nat
  | .ok => 0 | .badParam => 1 | .range => 2 | .noVolume => 3 | .gone => 4 | .frozen => 5 | .sourceBusy => 6
  | .trimming => 7 | .quota => 8 | .tenantLimit => 9 | .noPage => 10 | .noSpace => 11 | .shelfDown => 12
  | .media => 13 | .fenced => 15 | .backlog => 16 | .tagBusy => 17 | .badKind => 18 | .stale => 19
  | .exists_ => 20 | .volumeBusy => 21 | .onHold => 22 | .pinned => 23 | .familyFull => 24 | .jobFull => 25
  | .notRunning => 26 | .notPaused => 27 | .noShelf => 28 | .shelfBusy => 29

/-- Notice class codes (Table 10-2). -/
def NoticeClass.code : NoticeClass → Nat
  | .revoke => 1 | .fence => 2 | .shelf => 3 | .job => 4 | .volume => 5 | .part => 6

/-- Revocation reason codes (spec/10 section 10.5). -/
def RevReason.code : RevReason → Nat
  | .alloc => 1 | .cow => 2 | .trim => 3 | .delete => 4 | .downgrade => 5 | .reclaim => 6

/-- Reply segment kind codes (Table 10-2). -/
def SegmentKind.code : SegmentKind → Nat
  | .data => 1 | .hole => 2 | .down => 3

/-- Volume state codes (R172). -/
def VolState.code : VolState → Nat
  | .free => 0 | .active => 1 | .frozen => 2 | .building => 3 | .source => 4 | .deleting => 5

/-- Prior state codes (R172). -/
def priorCode : Option PriorState → Nat
  | none => 0 | some .active => 1 | some .frozen => 2

/-- Shelf state codes (R172). -/
def ShelfState.code : ShelfState → Nat
  | .absent => 0 | .online => 1 | .offline => 2 | .mismatch => 3 | .joining => 4 | .verifying => 5

/-- Pool condition codes (R172). -/
def PoolCond.code : PoolCond → Nat
  | .normal => 0 | .low => 1

/-- Job kind codes (R172). -/
def JobWork.code : JobWork → Nat
  | .delete _ => 1 | .trim _ _ _ => 2 | .clone _ _ => 3

/-- Job state codes (R172). -/
def JobState.code : JobState → Nat
  | .waiting => 1 | .running => 2 | .paused => 3

/-- Head link state codes (R171). -/
def LinkState.code : LinkState → Nat
  | .dark => 0 | .up => 1 | .fenced => 2

/-- Start cause codes (R171). -/
def StartCause.code : StartCause → Nat
  | .powerOn => 1 | .resetLine => 2

/-- Fault record cause codes (R178). -/
def CopyFail.code : CopyFail → Nat
  | .media => 1 | .source => 2 | .timeout => 3 | .link => 4

/-- A flag or a yes-or-no value in a result word (R172). -/
def flagWord (b : Bool) : Nat := if b then 1 else 0

/-- The nine bytes of a reply segment (Table 10-2). -/
def Segment.bytes (g : Segment) : List Byte :=
  [byteOf g.kind.code 0, byteOf g.shelf.val 0] ++ field32 g.block ++ field16 g.length ++ [byteOf (flagWord g.write) 0]

/-- A reply frame (Table 10-2). -/
def replyFrame (t : Tag) (status : Status) (body : ReplyBody) : List Byte :=
  match body with
  | .words ws =>
      withCrc ([byteOf t.val 0, byteOf status.code 0, 0, byteOf ws.length 0] ++ ws.flatMap field32)
  | .segments ss =>
      withCrc ([byteOf t.val 0, byteOf status.code 0, byteOf ss.length 0, 0] ++ ss.flatMap Segment.bytes)

/-- A notice frame, 15 bytes (Table 10-2). -/
def Notice.frame (n : Notice) : List Byte :=
  withCrc ([byteOf n.cls.code 0, byteOf n.detail 0] ++ field16 n.subject ++ field32 n.valueA ++ field32 n.valueB
    ++ [byteOf n.missed 0])

/-- The bytes of what is sent on a head link; an order goes out on a shelf link, whose frames the spec does
not lay out. -/
def Sent.frame : Sent → Option (List Byte)
  | .reply _ t status body => some (replyFrame t status body)
  | .notice _ n => some n.frame
  | .order _ _ _ _ => none

end Sys2Proof.Machine
end

