-- ==== Sys2Proof/Machine/Operands.lean ====
section
/-! DEFINITION. The operand arithmetic: the split of a block range into segments (R14 to R17), and the clamps and
parameter checks of the administration requests. -/

namespace Sys2Proof.Machine

/-- A segment of a translation request: extent index, offset in the extent, length in blocks (R16). -/
structure Seg where
  ext : Nat
  offset : Nat
  length : Nat
deriving DecidableEq, Repr

/-- The one or two segments of a block range (R16). -/
def segments (lba count : Nat) : List Seg :=
  let o := lba % Config.extentBlocks
  let l := min count (Config.extentBlocks - o)
  if l < count then
    [⟨lba / Config.extentBlocks, o, l⟩, ⟨lba / Config.extentBlocks + 1, 0, count - l⟩]
  else [⟨lba / Config.extentBlocks, o, l⟩]

/-- The parameter check of a translation request (R14): the LBA is not checked. -/
def mapParamsOk (vol count : Nat) : Bool := vol < Config.volumes && 1 ≤ count && count ≤ 1024

/-- The range check against a virtual size (R15), computed exactly. -/
def inRange (lba count size : Nat) : Bool := lba + count ≤ size * Config.extentBlocks

/-- The physical block of an offset in a slot (R1, R18). -/
def blockOf (slot offset : Nat) : Nat := slot * Config.extentBlocks + offset

/-- The directory slot of an extent index (R17). -/
def dirSlot (ext : Nat) : Nat := ext / Config.pageEntries

/-- The index of an extent's entry in its page (R17). -/
def entryIndex (ext : Nat) : Nat := ext % Config.pageEntries

/-- The keys of a request of the held list (R59, R73): none for VOL-FREEZE and VOL-CLONE, which name volumes. -/
def HeldReq.keys : HeldReq → List Key
  | .readMap v lba n | .writeMap v lba n => (segments lba n).map fun g => (v, g.ext)
  | .volFreeze _ | .volClone _ _ => []

/-- The volume for which a held request is answered GONE (R78): the parent for VOL-CLONE. -/
def HeldReq.volume : HeldReq → Nat
  | .readMap v _ _ | .writeMap v _ _ | .volFreeze v => v
  | .volClone _ parent => parent

/-- A mark clamped (R135): 0 stays 0, below 50 becomes 50, above 100 becomes 100. -/
def clampMark (m : Nat) : Nat := if m = 0 then 0 else max 50 (min m 100)

/-- A quota clamped to the range `low` to `size` (R135, R137). -/
def clampQuota (low size q : Nat) : Nat := max low (min q size)

/-- A low mark clamped to at most C−1 (R21). -/
def clampLowMark (capacity m : Nat) : Nat := min m (capacity - 1)

/-- A reserve clamped to at most the low mark (R21). -/
def clampReserve (lowMark r : Nat) : Nat := min r lowMark

/-- A base scrub level clamped to at most 7 (R21). -/
def clampLevel (l : Nat) : Nat := min l 7

/-- The shelf a request names, when its number is 0–7. -/
def shelfOf (n : Nat) : Option ShelfNo := if h : n < 8 then some ⟨n, h⟩ else none

/-- A shelf mask as a result word: the sum of 2 raised to each shelf number in it (spec/10 section 10.5). -/
def maskWord (m : BitVec 8) : Nat := m.toNat

end Sys2Proof.Machine
end

