-- ==== Sys2Proof/Machine/Table.lean ====
section
/-! DEFINITION. Operations on sparse tables: read, insert, erase, and a write that keeps the canonical form
(numbers strictly rising, no record equal to the default). -/

namespace Sys2Proof.Machine

/-- The record listed under a number, if any. -/
def Table.find? {α : Type} (t : Table α) (k : Nat) : Option α :=
  match t with
  | [] => none
  | (i, x) :: rest => if i = k then some x else Table.find? rest k

/-- The record of a number, where an unlisted number reads as `d`. -/
def Table.get {α : Type} (d : α) (t : Table α) (k : Nat) : α := (Table.find? t k).getD d

/-- The table without the number. -/
def Table.erase {α : Type} (t : Table α) (k : Nat) : Table α := t.filter fun p => p.1 != k

/-- A pair placed before the first pair of a greater number. -/
def Table.place {α : Type} (k : Nat) (x : α) (t : Table α) : Table α :=
  match t with
  | [] => [(k, x)]
  | (i, y) :: rest => if k < i then (k, x) :: (i, y) :: rest else (i, y) :: Table.place k x rest

/-- The table with the record of a number replaced or added. -/
def Table.insert {α : Type} (t : Table α) (k : Nat) (x : α) : Table α := Table.place k x (Table.erase t k)

/-- The table with number `k` reading as `x`, where an unlisted number reads as `d`. -/
def Table.put {α : Type} [DecidableEq α] (d : α) (t : Table α) (k : Nat) (x : α) : Table α :=
  if x = d then Table.erase t k else Table.insert t k x

/-- The numbers of the table rise strictly. -/
def Table.sorted {α : Type} (t : Table α) : Bool :=
  match t with
  | [] => true
  | (i, _) :: rest => rest.all (fun p => i < p.1) && Table.sorted rest

/-- The canonical form: numbers strictly rising and no record equal to the default. -/
def Table.canonical {α : Type} [DecidableEq α] (d : α) (t : Table α) : Bool :=
  Table.sorted t && t.all fun p => p.2 ≠ d

/-- The lowest of the numbers `start`, …, `start + fuel - 1` that passes the test. -/
def lowestFrom (p : Nat → Bool) (fuel start : Nat) : Option Nat :=
  match fuel with
  | 0 => none
  | fuel + 1 => if p start then some start else lowestFrom p fuel (start + 1)

end Sys2Proof.Machine
end

