-- ==== Sys2Proof/Machine/Ops.lean ====
section
/-! DEFINITION. The named reads and writes of State: heads, shelves, volumes, map entries, families, tenants, tags,
replies and notices. -/

namespace Sys2Proof.Machine

/-- The four heads. -/
def allHeads : List Head := [0, 1, 2, 3]

/-- The eight shelves. -/
def allShelves : List ShelfNo := [0, 1, 2, 3, 4, 5, 6, 7]

/-! ### Records -/

/-- A head's record. -/
def State.head (s : State) (h : Head) : HeadRec := s.heads[h]

/-- A head's record replaced. -/
def State.setHead (s : State) (h : Head) (x : HeadRec) : State := { s with heads := s.heads.set h x }

/-- A head's record changed. -/
def State.updHead (s : State) (h : Head) (f : HeadRec → HeadRec) : State := s.setHead h (f (s.head h))

/-- A shelf's record and Shelf Order Unit. -/
def State.shelf (s : State) (k : ShelfNo) : Shelf := s.shelves[k]

/-- A shelf replaced. -/
def State.setShelf (s : State) (k : ShelfNo) (x : Shelf) : State := { s with shelves := s.shelves.set k x }

/-- A shelf changed. -/
def State.updShelf (s : State) (k : ShelfNo) (f : Shelf → Shelf) : State := s.setShelf k (f (s.shelf k))

/-- A volume record; a record that is not listed is FREE (R3). -/
def State.volume (s : State) (v : Nat) : Volume := Table.get Volume.freeRecord s.volumes v

/-- A volume record replaced. -/
def State.setVolume (s : State) (v : Nat) (x : Volume) : State :=
  { s with volumes := Table.put Volume.freeRecord s.volumes v x }

/-- A volume record changed. -/
def State.updVolume (s : State) (v : Nat) (f : Volume → Volume) : State := s.setVolume v (f (s.volume v))

/-- A tenant record; a record that is not listed has its initial values (R49). -/
def State.tenant (s : State) (n : Nat) : Tenant := Table.get Tenant.initial s.tenants n

/-- A tenant record changed. -/
def State.updTenant (s : State) (n : Nat) (f : Tenant → Tenant) : State :=
  { s with tenants := Table.put Tenant.initial s.tenants n (f (s.tenant n)) }

/-- A family's member count; a record that is not listed is free (R9). -/
def State.family (s : State) (n : Nat) : Nat := Table.get 0 s.families n

/-- A family's member count replaced. -/
def State.setFamily (s : State) (n count : Nat) : State := { s with families := Table.put 0 s.families n count }

/-! ### Map entries -/

/-- The map entry of a volume's extent index; an entry in an absent slot reads as UNMAPPED (R4, R17). -/
def Volume.entry (r : Volume) (ext : Nat) : MapEntry :=
  match Table.find? r.dir (dirSlot ext) with
  | none => .unmapped
  | some p => Table.get .unmapped p.entries (entryIndex ext)

/-- The map entry of a key. -/
def State.entry (s : State) (vol ext : Nat) : MapEntry := (s.volume vol).entry ext

/-- A map entry written in a present directory slot; an absent slot has no entry to write. -/
def Volume.setEntry (r : Volume) (ext : Nat) (x : MapEntry) : Volume :=
  match Table.find? r.dir (dirSlot ext) with
  | none => r
  | some p =>
      { r with dir := Table.insert r.dir (dirSlot ext) { p with entries := Table.put .unmapped p.entries (entryIndex ext) x } }

/-- A map entry written. -/
def State.setEntry (s : State) (vol ext : Nat) (x : MapEntry) : State := s.updVolume vol fun r => r.setEntry ext x

/-- The directory slot of an extent index is present. -/
def Volume.slotPresent (r : Volume) (ext : Nat) : Bool := (Table.find? r.dir (dirSlot ext)).isSome

/-! ### Replies and tags -/

/-- Something leaves the part. -/
def State.emit (s : State) (x : Sent) : State := { s with sent := s.sent ++ [x] }

/-- A reply frame. -/
def Sent.isReply : Sent → Bool
  | .reply _ _ _ _ => true
  | .notice _ _ | .order _ _ _ _ => false

/-- A tag becomes outstanding (R169). -/
def State.openTag (s : State) (h : Head) (t : Tag) : State := s.updHead h fun r => { r with tags := t :: r.tags }

/-- A tag is freed (R169). -/
def State.freeTag (s : State) (h : Head) (t : Tag) : State := s.updHead h fun r => { r with tags := r.tags.erase t }

/-- A request is answered: its tag is freed and the reply goes out (R169). -/
def State.reply (s : State) (h : Head) (t : Tag) (status : Status) (body : ReplyBody) : State :=
  (s.freeTag h t).emit (.reply h t status body)

/-- A reply with result words. -/
def State.replyWords (s : State) (h : Head) (t : Tag) (ws : List Nat) : State := s.reply h t .ok (.words ws)

/-- A reply whose status is not OK, which carries nothing (Table 10-4). -/
def State.refuse (s : State) (h : Head) (t : Tag) (status : Status) : State := s.reply h t status (.words [])

/-- The answer to a request that waited for work in progress: none when its link went DARK (R167), FENCED when it
took the fenced mark (R92 stage 3), else the answer given. -/
def State.answer (s : State) (w : Waiter) (status : Status) (body : ReplyBody) : State :=
  if w.detached then s
  else if w.fenced then s.refuse w.head w.tag .fenced
  else s.reply w.head w.tag status body

/-- The taking of a request frame (R169). A DARK link takes none. An outstanding tag is answered TAG-BUSY and keeps
its request. A FENCED link serves only the kinds of step 3. Otherwise the tag becomes outstanding and the request
goes to its owner. -/
def State.take (s : State) (h : Head) (t : Tag) (servedFenced : Bool) (serve : State → State) : State :=
  match (s.head h).link with
  | .dark => s
  | .up =>
      if (s.head h).tags.contains t then s.emit (.reply h t .tagBusy (.words []))
      else serve (s.openTag h t)
  | .fenced =>
      if (s.head h).tags.contains t then s.emit (.reply h t .tagBusy (.words []))
      else if servedFenced then serve (s.openTag h t)
      else (s.openTag h t).refuse h t .fenced

/-! ### Notices -/

/-- The value of a maskable class; none for REVOKE and FENCE, which have no mask (R174). -/
def PerClass.at {α : Type} (p : PerClass α) : NoticeClass → Option α
  | .shelf => some p.shelf
  | .job => some p.job
  | .volume => some p.volume
  | .part => some p.part
  | .revoke | .fence => none

/-- The value of a maskable class replaced. -/
def PerClass.put {α : Type} (p : PerClass α) (c : NoticeClass) (x : α) : PerClass α :=
  match c with
  | .shelf => { p with shelf := x }
  | .job => { p with job := x }
  | .volume => { p with volume := x }
  | .part => { p with part := x }
  | .revoke | .fence => p

/-- A masked notice becomes the pending record of its class; it counts the one it replaces (R174). -/
def HeadRec.keepPending (r : HeadRec) (n : Notice) : HeadRec :=
  match r.pending.at n.cls with
  | some (some old) => { r with pending := r.pending.put n.cls (some { n with missed := min 255 (old.missed + 1) }) }
  | _ => { r with pending := r.pending.put n.cls (some { n with missed := 0 }) }

/-- A notice for one head is raised: discarded when its link is DARK (R173), else delivered by its class (R174). -/
def State.notify (s : State) (h : Head) (n : Notice) : State :=
  if (s.head h).link = .dark then s
  else
    match n.cls with
    | .revoke => s.emit (.notice h n)
    | .fence => (s.updHead h fun r => { r with fence := some n }).emit (.notice h n)
    | c =>
        if (s.head h).masks.at c = some true then s.updHead h fun r => r.keepPending n
        else s.emit (.notice h n)

/-- A notice addressed to every head, judged for each (R173). Its frames leave in rising head number: R174 orders frames
to one head only (DESIGN CHOICE, log entry 31). -/
def State.notifyAll (s : State) (n : Notice) : State := allHeads.foldl (fun s h => s.notify h n) s

/-- The SHELF notice of a shelf (R173): detail 1 ONLINE, 2 OFFLINE, 3 MISMATCH, 4 condition change. -/
def State.shelfNotice (s : State) (k : ShelfNo) (detail : Nat) : State :=
  s.notifyAll ⟨.shelf, detail, k.val, (s.shelf k).cond.code, (s.shelf k).freeList.length, 0⟩

/-! ### PET slots -/

/-- A PET entry written. -/
def Shelf.setSlot (sh : Shelf) (slot : Nat) (st : SlotState) (refs : Nat) : Shelf :=
  { sh with pet := sh.pet.set slot ⟨st, refs⟩ }

/-- The reference count of a slot (R31). -/
def Shelf.refs (sh : Shelf) (slot : Nat) : Nat := ((sh.pet[slot]?).map PetEntry.refs).getD 0

/-- The number of slots in a PET state (R30). -/
def Shelf.countState (sh : Shelf) (st : SlotState) : Nat := sh.pet.countP fun p => p.state = st

/-- The slot at the head of the free list is taken, into the given state (R32, R38). -/
def Shelf.takeFree (sh : Shelf) (st : SlotState) (refs : Nat) : Shelf :=
  match sh.freeList with
  | [] => sh
  | c :: rest => { (sh.setSlot c st refs) with freeList := rest }

end Sys2Proof.Machine
end

