-- ==== Sys2Proof/Machine/Flags.lean ====
section
/-! DEFINITION. The computed conditions: pool condition (R35, R36), mark test (R177), tenant-limit test (R51),
reclaim state (R82). -/

namespace Sys2Proof.Machine

/-- The due pool condition (R35). -/
def dueCond (cond : PoolCond) (free lowMark : Nat) : PoolCond :=
  match cond with
  | .normal => if free < lowMark then .low else .normal
  | .low => if lowMark + lowMark / 8 ≤ free then .normal else .low

/-- The due pool condition of a shelf as it stands. -/
def Shelf.due (sh : Shelf) : PoolCond := dueCond sh.cond sh.freeList.length sh.lowMark

/-- An evaluation of the due pool condition on an ONLINE shelf: the settle timer is cancelled, started or left
running (R36). -/
def Shelf.evalCond (now : Nat) (sh : Shelf) : Shelf :=
  if sh.state = .online then
    if sh.due = sh.cond then { sh with settle := none }
    else
      match sh.settle with
      | none => { sh with settle := some (now + Config.settleTime) }
      | some _ => sh
  else sh

/-- The due pool condition of a shelf is evaluated (R35, R36). -/
def State.evalCond (s : State) (k : ShelfNo) : State := s.updShelf k (Shelf.evalCond s.now)

/-- The mark test (R177). -/
def Volume.markTrue (r : Volume) : Bool := r.mark ≠ 0 && r.quota * r.mark ≤ r.allocated * 100

/-- The mark test in an event that changes the allocated count: the flag takes its result, and an upward crossing
raises a VOLUME notice (R177). -/
def State.markTest (s : State) (v : Nat) : State :=
  let r := s.volume v
  let s1 := s.setVolume v { r with crossed := r.markTrue }
  if r.markTrue && !r.crossed then s1.notifyAll ⟨.volume, 1, v, r.allocated, r.quota, 0⟩ else s1

/-- The mark test of VOL-QUOTA and VOL-MARK: the flag takes its result and no notice is raised (R137, R138). -/
def Volume.markSilent (r : Volume) : Volume := { r with crossed := r.markTrue }

/-- Charged plus promised (R49). -/
def Tenant.sum (t : Tenant) : Nat := t.charged + t.promised

/-- The tenant-limit test: a VOLUME notice when charged plus promised has risen from below the limit to equal to it
(R51). -/
def State.tenantLimitTest (s : State) (n : Nat) (before : Nat) : State :=
  let t := s.tenant n
  if before < t.limit ∧ t.sum = t.limit then
    s.notifyAll ⟨.volume, 2, n, t.charged, t.promised, 0⟩
  else s

/-- The reclaim state after an event that leaves `free` grant entries free (R82). -/
def reclaimAfter (active : Bool) (free : Nat) : Bool :=
  if active then decide (free < 512) else decide (free < 256)

/-- Free grant entries (R79). -/
def State.freeGrants (s : State) : Nat := Config.grantMax - s.grants.length

end Sys2Proof.Machine
end

