-- ==== Sys2Proof/Machine/Event.lean ====
section
/-! DEFINITION. One event in the making: the state so far, what the event has released for held requests (R73), the
shelves whose scrub engine and arbiter it runs (R124, R127), and the passes it lets act (R97). -/

namespace Sys2Proof.Machine

/-- An event in the making. `kick` lists the passes that R97 gives cause to act, `kickCow` those that the end of a
volume's last COW does (R98). `taken` lists the arrival sequences of the held entries already taken in the
re-examination pass: an entry is taken at most once per event (R73). `lead` is how much had left the part when
the event began. -/
structure Ev where
  st : State
  rel : List Reason
  run : List ShelfNo
  kick : List Nat
  kickCow : List Nat
  taken : List Nat
  lead : Nat

/-- An event that has done nothing yet. -/
def Ev.start (s : State) : Ev := ⟨s, [], [], [], [], [], s.sent.length⟩

/-- A change of the state within an event. -/
def Ev.map (ev : Ev) (f : State → State) : Ev := { ev with st := f ev.st }

/-- A resource is released (R73). -/
def Ev.release (ev : Ev) (r : Reason) : Ev := { ev with rel := ev.rel ++ [r] }

/-- Several resources are released. -/
def Ev.releaseAll (ev : Ev) (rs : List Reason) : Ev := { ev with rel := ev.rel ++ rs }

/-- A shelf's scrub engine and arbiter have cause to run (R124, R127). -/
def Ev.runShelf (ev : Ev) (k : ShelfNo) : Ev := { ev with run := if ev.run.contains k then ev.run else ev.run ++ [k] }

/-! ### Parts of one event that no rule orders -/

/-- A reply to a head. -/
def Sent.repliesTo (x : Sent) (h : Head) : Bool :=
  match x with
  | .reply k _ _ _ => k = h
  | .notice _ _ | .order _ _ _ _ => false

/-- A notice to a head. -/
def Sent.notifies (x : Sent) (h : Head) : Bool :=
  match x with
  | .notice k _ => k = h
  | .reply _ _ _ _ | .order _ _ _ _ => false

/-- The FENCE notice of a head. -/
def Sent.fences (x : Sent) (h : Head) : Bool :=
  match x with
  | .notice k n => k = h && n.cls = .fence
  | .reply _ _ _ _ | .order _ _ _ _ => false

/-- The place of a frame of one part of an event among the frames of the next part: 0 for a notice that follows no reply
of its part to its head, 2 for a reply that precedes no notice of its part to its head, and 1 between. A FENCE notice and
a reply to a head that the next part fences take place 1: what was decided before a fencing is not answered after its
notice (R92, R93). -/
def Sent.place (x : Sent) (before after next : List Sent) : Nat :=
  match x with
  | .reply h _ _ _ => if (after.any fun y => y.notifies h) || next.any fun y => y.fences h then 1 else 2
  | .notice h _ => if x.fences h || before.any fun y => y.repliesTo h then 1 else 0
  | .order _ _ _ _ => 0

/-- The frames of one part, each with its place. -/
def Sent.places (next : List Sent) (before : List Sent) : List Sent → List (Nat × Sent)
  | [] => []
  | x :: after => (x.place before after next, x) :: Sent.places next (before ++ [x]) after

/-- The frames of a place. -/
def Sent.atPlace (l : List (Nat × Sent)) (n : Nat) : List Sent := (l.filter fun p => p.1 = n).map Prod.snd

/-- The frames of two parts of one event that no rule orders (R174; DESIGN CHOICE, log entry 7): to each head the notices
of both leave before the replies of both, as far as the order that the rules give within each part allows. -/
def Sent.apart : List Sent → List Sent → List Sent
  | [], b => b
  | a, [] => a
  | a, b =>
      let p := Sent.places b [] a
      let q := Sent.places [] [] b
      (Sent.atPlace p 0 ++ Sent.atPlace q 0) ++ (Sent.atPlace p 1 ++ Sent.atPlace q 1) ++
        (Sent.atPlace p 2 ++ Sent.atPlace q 2)

/-- The frames of a hand-out: those of the job's step, and those of each pass, with whether it was handed a record. R86
orders the job's step and the passes that waited for a record, and their frames leave in that order. No rule orders these
and the passes that act on another cause, nor two of those (R174; DESIGN CHOICE, log entry 7). -/
def Sent.inTurns (job : List Sent) (turns : List (Bool × List Sent)) : List Sent :=
  Sent.apart (job ++ (turns.filter fun p => p.1).flatMap Prod.snd)
    (((turns.filter fun p => !p.1).map Prod.snd).foldr Sent.apart [])

/-- Two parts of an event that no rule orders: the second acts on what the first leaves, and their frames leave as R174
orders them. -/
def Ev.thenApart (ev : Ev) (part next : Ev → Ev) : Ev :=
  let ev1 := part ev
  (next ev1).map fun s =>
    let n := ev.st.sent.length
    let m := ev1.st.sent.length
    { s with sent := s.sent.take n ++ Sent.apart ((s.sent.take m).drop n) (s.sent.drop m) }

/-- Parts of an event that no rule orders, one for each entry of a list. -/
def Ev.apart {α : Type} (f : Ev → α → Ev) : List α → Ev → Ev
  | [], ev => ev
  | x :: xs, ev => ev.thenApart (fun ev => f ev x) fun ev => Ev.apart f xs ev

/-! ### Passes with cause to act -/

/-- A pass has cause to examine its to-do set (R97). -/
def Ev.kickPass (ev : Ev) (seq : Nat) : Ev := { ev with kick := ev.kick ++ [seq] }

/-- The last COW on a pass's volume has ended: the pass examines its to-do set and tests its end (R98). -/
def Ev.kickPassCow (ev : Ev) (seq : Nat) : Ev := { ev with kickCow := ev.kickCow ++ [seq] }

end Sys2Proof.Machine
end

