-- ==== Sys2Proof/Machine/Orders.lean ====
section
/-! DEFINITION. Shelf Order Units: order lists, tags and serials, the scrub engine and the dispatch arbiter (spec/07). -/

namespace Sys2Proof.Machine

/-- ZERO is the background order (R118). -/
def Order.isZero : Order → Bool
  | .zero _ => true
  | .copy _ _ _ _ | .labelRead _ | .labelWrite _ _ => false

/-- The timeout of an order kind in ms (R118). -/
def Order.timeout : Order → Nat
  | .zero _ => 1000
  | .copy _ _ _ _ => 2000
  | .labelRead _ | .labelWrite _ _ => 500

/-- An order is queued at the tail of the order list (R120). -/
def Shelf.queueOrder (sh : Shelf) (o : Order) : Shelf := { sh with orders := sh.orders ++ [o] }

/-- The shelf is in a state in which orders are dispatched (R124). -/
def ShelfState.dispatches : ShelfState → Bool
  | .joining | .verifying | .online => true
  | .absent | .offline | .mismatch => false

/-- ZERO orders waiting or in flight (R127). -/
def Shelf.zerosOut (sh : Shelf) : Nat :=
  sh.orders.countP Order.isZero + sh.inFlight.countP fun f => f.order.isZero

/-- The scrub engine queues one ZERO when its four conditions hold (R127). -/
def Shelf.scrubOne (sh : Shelf) : Shelf :=
  if sh.state = .online ∧ sh.zerosOut < Config.zeroMax ∧ sh.orders.length < Config.orderMax then
    match sh.scrubQueue with
    | [] => sh
    | c :: rest => { (sh.setSlot c .scrubbing 0).queueOrder (.zero c) with scrubQueue := rest }
  else sh

/-- The scrub engine runs until a condition fails; it can queue at most four ZERO orders (R127). -/
def Shelf.scrub (sh : Shelf) : Shelf := sh.scrubOne.scrubOne.scrubOne.scrubOne

/-- F is 0 whenever no ZERO waits (R125). -/
def Shelf.clearF (sh : Shelf) : Shelf := if sh.orders.any Order.isZero then sh else { sh with fgCount := 0 }

/-- The arbiter's choice (R125): whether it sends the oldest waiting ZERO (true) or the oldest waiting foreground
order (false), and F after the dispatch. -/
def Shelf.choose (sh : Shelf) : Option (Bool × Nat) :=
  let fg := sh.orders.any fun o => !o.isZero
  let inFlightZeros := sh.inFlight.countP fun f => f.order.isZero
  if sh.orders.any Order.isZero then
    if inFlightZeros < Config.zeroMax then
      if 8 - sh.level ≤ sh.fgCount then some (true, 0)
      else if fg then some (false, sh.fgCount + 1)
      else some (true, 0)
    else none
  else if fg then some (false, 0)
  else none

/-- The lowest-numbered free order tag (R121). -/
def Shelf.freeTag (sh : Shelf) : Option Nat :=
  lowestFrom (fun t => !(sh.inFlight.any fun f => f.tag = t)) Config.orderTags 0

/-- One dispatch, if one can be made (R124): the order leaves the list, takes the lowest free tag and the next
serial, and its timer starts. -/
def Shelf.dispatchOne (now : Nat) (sh : Shelf) : Option (Shelf × InFlight) :=
  if sh.linkUp && sh.state.dispatches then
    match sh.freeTag, sh.choose with
    | some t, some (zero, f) =>
        match sh.orders.find? fun o => o.isZero == zero with
        | none => none
        | some o =>
            let x : InFlight := ⟨t, sh.serial, o, now + o.timeout⟩
            some
              (Shelf.clearF
                { sh with
                  orders := sh.orders.eraseP fun o => o.isZero == zero
                  inFlight := sh.inFlight ++ [x]
                  serial := (sh.serial + 1) % 65536
                  fgCount := f },
                x)
    | _, _ => none
  else none

/-- Dispatches one after another until none can be made (R124). -/
def Shelf.dispatchAll (now : Nat) (fuel : Nat) (sh : Shelf) : Shelf × List InFlight :=
  match fuel with
  | 0 => (sh, [])
  | fuel + 1 =>
      match sh.dispatchOne now with
      | none => (sh, [])
      | some (sh1, x) =>
          let r := Shelf.dispatchAll now fuel sh1
          (r.1, x :: r.2)

/-- The scrub engine and then the arbiter of one shelf run (R120, R124, R127). A dispatch takes a waiting order off
the list, which releases ORDER-ROOM and lets the scrub engine run again. -/
def Ev.serveShelf (ev : Ev) (k : ShelfNo) : Ev :=
  let sh := ((ev.st.shelf k).scrub).clearF
  let r := sh.dispatchAll ev.st.now sh.orders.length
  let s1 := ev.st.setShelf k r.1
  let s2 := r.2.foldl (fun s x => s.emit (.order k x.tag x.serial x.order)) s1
  let ev1 := { ev with st := s2 }
  if r.2.isEmpty then ev1 else (ev1.release (.orderRoom k)).runShelf k

/-- Every shelf that has cause to run is served once; those that dispatched have cause to run again. The shelves are
served in the order in which they got cause: spec/07 orders no shelf's orders against another's (DESIGN CHOICE, log
entry 32). -/
def Ev.serveShelves (ev : Ev) : Ev := ev.run.foldl Ev.serveShelf { ev with run := [] }

/-- The arbiter has a free tag, and foreground orders that wait already take every free tag it has. An order queued
behind them in the same event changes none of its dispatches (R124, R125). -/
def Shelf.dispatchesFixed (sh : Shelf) : Bool :=
  let free := Config.orderTags - sh.inFlight.length
  0 < free && free ≤ sh.orders.countP fun o => !o.isZero

/-- The shelves with cause to run whose dispatches are fixed are served before the held list is re-examined, so that
the room they leave is part of what the event's one pass goes through (R73, R120; log entry 18). -/
def Ev.serveFixed (ev : Ev) : Ev :=
  (ev.run.filter fun k => (ev.st.shelf k).dispatchesFixed).foldl Ev.serveShelf
    { ev with run := ev.run.filter fun k => !(ev.st.shelf k).dispatchesFixed }

/-- A slot's refcount falls by 1; at 0 the slot becomes SCRUB-WAIT at the tail of the scrub queue (R33, R107, R153). -/
def Ev.dropRef (ev : Ev) (k : ShelfNo) (slot : Nat) : Ev :=
  let sh := ev.st.shelf k
  let n := sh.refs slot - 1
  if n = 0 then
    (ev.map fun s => s.setShelf k { (sh.setSlot slot .scrubWait 0) with scrubQueue := sh.scrubQueue ++ [slot] }).runShelf k
  else ev.map fun s => s.setShelf k (sh.setSlot slot .inUse n)

/-- Slots go to the head of the scrub queue as one group in ascending order (R33). -/
def Shelf.returnSlots (sh : Shelf) (slots : List Nat) : Shelf :=
  let g := slots.insertionSort (· ≤ ·)
  { (g.foldl (fun sh c => sh.setSlot c .scrubWait 0) sh) with scrubQueue := g ++ sh.scrubQueue }

/-- The order in flight that an answer matches by tag and serial (R119). -/
def Shelf.matched (sh : Shelf) (otag serial : Nat) : Option InFlight :=
  sh.inFlight.find? fun f => f.tag = otag && f.serial = serial

/-- An order in flight ends: its tag is freed and its timer cancelled (R121). -/
def Shelf.endOrder (sh : Shelf) (otag : Nat) : Shelf :=
  { sh with inFlight := sh.inFlight.filter fun f => f.tag ≠ otag }

/-- A matched answer ends its order and clears the consecutive-timeout count (R119, R27). -/
def Shelf.answered (sh : Shelf) (otag : Nat) : Shelf := { (sh.endOrder otag) with timeouts := 0 }

/-- The consecutive-timeout count rises by 1, not above 3 (R27). -/
def Shelf.countTimeout (sh : Shelf) : Shelf := { sh with timeouts := min 3 (sh.timeouts + 1) }

/-- The ABSENT values of R20, at a failed join, SHELF-PART or start-up recovery. The volatile state that R20 does not
name is kept, but for the level, the timers and F, which an ABSENT shelf does not have (R131, R132). -/
def Shelf.absentValues (sh : Shelf) : Shelf :=
  { sh with
    state := .absent, capacity := 0, label := 0, lowMark := 0, reserve := 0, baseLevel := 0, cond := .normal,
    retired := 0, pet := [], freeList := [], scrubQueue := [], reverify := none, settle := none,
    stepTimer := none, level := 0, fgCount := 0, join := none }

/-- A shelf enters ONLINE: the timeout count is 0 and the step timer starts (R26, R27, R130). -/
def Shelf.enterOnline (now : Nat) (sh : Shelf) : Shelf :=
  { sh with state := .online, timeouts := 0, reverify := none, stepTimer := some (now + Config.stepTime), fgCount := 0 }

/-- A shelf begins verification: a LABEL-READ for slot C−1 is queued (R24, R25). -/
def Shelf.beginVerify (sh : Shelf) : Shelf :=
  { (sh.queueOrder (.labelRead (sh.capacity - 1))) with state := .verifying, reverify := none }

/-- A shelf enters OFFLINE; the re-verify timer starts if its link is UP (R25). Settle and step timers stop (R36,
R130). -/
def Shelf.enterOffline (now : Nat) (sh : Shelf) : Shelf :=
  { sh with
    state := .offline, settle := none, stepTimer := none
    reverify := if sh.linkUp then some (now + Config.reverifyTime) else none }

end Sys2Proof.Machine
end

