-- ==== Sys2Proof/Machine/Alloc.lean ====
section
/-! DEFINITION. The Allocator: shelf choice and picks (R38 to R41), and map pages (R4, R45, R46). -/

namespace Sys2Proof.Machine

/-- Eligibility of a shelf with free length `f` and reserve `r` for a fresh or a COW extent (R39). -/
def eligible (fresh : Bool) (f r : Nat) : Bool := if fresh then r < f else 1 ≤ f

/-- A shelf is a candidate for a pick, after the tentative picks `taken` of the same admission (R38, R40). -/
def State.candidate (s : State) (mask : BitVec 8) (taken : List ShelfNo) (fresh : Bool) (k : ShelfNo) : Bool :=
  let sh := s.shelf k
  mask.getLsbD k.val && decide (sh.state = .online) && eligible fresh (sh.freeList.length - taken.count k) sh.reserve

/-- The scan order from a cursor (R38). -/
def scanFrom (cursor : ShelfNo) : List ShelfNo := allShelves.map fun i => cursor + i

/-- The shelf a pick chooses: the first NORMAL candidate in scan order, else the first LOW one (R38). -/
def State.pickShelf (s : State) (mask : BitVec 8) (cursor : ShelfNo) (taken : List ShelfNo) (fresh : Bool) :
    Option ShelfNo :=
  match (scanFrom cursor).find? fun k => s.candidate mask taken fresh k && decide ((s.shelf k).cond = .normal) with
  | some k => some k
  | none => (scanFrom cursor).find? fun k => s.candidate mask taken fresh k

/-- The picks of one admission, in order (true for a fresh extent, false for a COW extent); each sees those before
it and starts from the cursor they left. The shelves picked and the last cursor, or none when a pick fails (R40). -/
def State.pickAll (s : State) (mask : BitVec 8) (cursor : ShelfNo) (taken : List ShelfNo) :
    List Bool → Option (List ShelfNo × ShelfNo)
  | [] => some ([], cursor)
  | fresh :: more =>
      match s.pickShelf mask cursor taken fresh with
      | none => none
      | some k =>
          match s.pickAll mask (k + 1) (k :: taken) more with
          | none => none
          | some (ks, c) => some (k :: ks, c)

/-- The slot at the head of a shelf's free list (R32). -/
def State.freeHead (s : State) (k : ShelfNo) : Nat := (s.shelf k).freeList.headD 0

/-- The page numbers in directory slots (R5). -/
def State.usedPages (s : State) : List Nat := s.volumes.flatMap fun p => p.2.dir.map fun q => q.2.number

/-- The free page that is taken next: the first free one from the free value on, wrapping. Which free page it is
the spec leaves open (log entry 4). -/
def State.nextPage (s : State) : Nat :=
  let start := Config.pageChoice s.pageDraws % Config.pages
  let used := s.usedPages
  match lowestFrom (fun i => !used.contains ((start + i) % Config.pages)) Config.pages 0 with
  | some i => (start + i) % Config.pages
  | none => start

/-- A page is taken from the pool into an absent directory slot, its entries all UNMAPPED (R4, R5, R45). -/
def State.takePage (s : State) (vol ext : Nat) : State :=
  let n := s.nextPage
  { (s.updVolume vol fun r =>
      { r with dir := Table.insert r.dir (dirSlot ext) ⟨n, []⟩, pageCount := r.pageCount + 1 }) with
    poolFree := s.poolFree - 1
    pageDraws := s.pageDraws + 1 }

/-- The directory slot of an extent index is made present (R45). -/
def State.ensurePage (s : State) (vol ext : Nat) : State :=
  if (s.volume vol).slotPresent ext then s else s.takePage vol ext

/-- A fresh segment of a commit: page, slot, entry and counts (R45). -/
def State.commitFresh (s : State) (vol ext : Nat) (k : ShelfNo) : State :=
  let slot := s.freeHead k
  let s1 := s.ensurePage vol ext
  let s2 := s1.updShelf k fun sh => sh.takeFree .inUse 1
  let s3 := s2.setEntry vol ext (.mapped k slot)
  let s4 := s3.updVolume vol fun r => { r with allocated := r.allocated + 1 }
  s4.updTenant (s4.volume vol).tenant fun t => { t with charged := t.charged + 1 }

/-- A page that is left wholly UNMAPPED returns to the pool (R155). -/
def State.releasePage (s : State) (vol ext : Nat) : State :=
  match Table.find? (s.volume vol).dir (dirSlot ext) with
  | some p =>
      if p.entries.all fun q => q.2 = .unmapped then
        { (s.updVolume vol fun r =>
            { r with dir := Table.erase r.dir (dirSlot ext), pageCount := r.pageCount - 1 }) with
          poolFree := s.poolFree + 1 }
      else s
  | none => s

end Sys2Proof.Machine
end

