-- ==== Sys2Proof/Machine/Grants.lean ====
section
/-! DEFINITION. The grant table (R79 to R81), opening revocation records (R85), reclaim (R82), and the reply records of
committed WRITE-MAP requests (R64, R65, R68, R69). -/

namespace Sys2Proof.Machine

/-! ### The grant table -/

/-- The grant entry of a key. -/
def State.grantAt (s : State) (vol ext : Nat) : Option Grant := s.grants.find? fun g => g.vol = vol && g.ext = ext

/-- The holder record of a head on a key. -/
def State.holder (s : State) (vol ext : Nat) (h : Head) : Option GrantKind :=
  match s.grantAt vol ext with
  | none => none
  | some g => g.holders[h]

/-- The heads that hold a grant entry, in rising order. -/
def Grant.holderHeads (g : Grant) : List Head := allHeads.filter fun h => (g.holders[h]).isSome

/-- The heads that hold WRITE on a grant entry, in rising order. -/
def Grant.writers (g : Grant) : List Head := allHeads.filter fun h => g.holders[h] = some .write

/-- Every holder of a key (R85). -/
def State.holdersOf (s : State) (vol ext : Nat) : List Head :=
  match s.grantAt vol ext with
  | none => []
  | some g => g.holderHeads

/-- The holders of a key other than one head (R85). -/
def State.othersOf (s : State) (vol ext : Nat) (h : Head) : List Head := (s.holdersOf vol ext).filter fun k => k ≠ h

/-- The WRITE holders of a key (R85). -/
def State.writersOf (s : State) (vol ext : Nat) : List Head :=
  match s.grantAt vol ext with
  | none => []
  | some g => g.writers

/-- A holder record is set, and the key's entry goes to the newest end of the age order; a key without an entry takes
one (R61, R80). -/
def State.setHolder (s : State) (vol ext : Nat) (h : Head) (k : GrantKind) : State :=
  let old := match s.grantAt vol ext with
    | some g => g.holders
    | none => Vector.replicate 4 none
  { s with grants := (s.grants.filter fun g => !(g.vol = vol && g.ext = ext)) ++ [⟨vol, ext, old.set h (some k)⟩] }

/-- A READ holder is added, or the holder record is renewed keeping its kind (R61, R62). -/
def State.touchHolder (s : State) (vol ext : Nat) (h : Head) : State :=
  s.setHolder vol ext h ((s.holder vol ext h).getD .read)

/-- A grant entry without one head's holder record; none when no holder is left, and the entry is then freed (R79). -/
def Grant.without (g : Grant) (h : Head) : Option Grant :=
  let g1 : Grant := { g with holders := g.holders.set h none }
  if g1.holderHeads.isEmpty then none else some g1

/-- Grant entries freed since `before` release GRANT-ROOM (R73, R81). -/
def Ev.grantsFreed (ev : Ev) (before : Nat) : Ev :=
  if ev.st.grants.length < before then ev.release .grantRoom else ev

/-- A head's holder record on a key is removed; the entry keeps its place, and is freed with its last holder (R79,
R80, R81). -/
def Ev.dropHolder (ev : Ev) (vol ext : Nat) (h : Head) : Ev :=
  (ev.map fun s =>
      { s with grants := s.grants.filterMap fun g => if g.vol = vol && g.ext = ext then g.without h else some g }).grantsFreed
    ev.st.grants.length

/-- Every holder record of a head is removed (R92 stage 4, R94). -/
def Ev.dropAllHolders (ev : Ev) (h : Head) : Ev :=
  (ev.map fun s => { s with grants := s.grants.filterMap fun g => g.without h }).grantsFreed ev.st.grants.length

/-- Every grant entry of a volume is freed with its records (R157). -/
def Ev.freeVolumeGrants (ev : Ev) (vol : Nat) : Ev :=
  (ev.map fun s => { s with grants := s.grants.filter fun g => g.vol ≠ vol }).grantsFreed ev.st.grants.length

/-! ### Revocation records -/

/-- The open revocation record of a key (R84). -/
def State.revAt (s : State) (vol ext : Nat) : Option Rev := s.revs.find? fun r => r.vol = vol && r.ext = ext

/-- A revocation record is free (R84). -/
def State.revFree (s : State) : Bool := s.revs.length < Config.revMax

/-- A revocation record is opened: REVOKE notices go to the awaited heads and the 40 ms window starts. None is opened
with an empty awaited set (R85). The notices leave in the order of the awaited heads, which is rising head number (DESIGN
CHOICE, log entry 31). -/
def State.openRev (s : State) (vol ext : Nat) (reason : RevReason) (awaited : List Head) (party : RevParty) : State :=
  if awaited.isEmpty then s
  else
    awaited.foldl (fun s h => s.notify h ⟨.revoke, reason.code, vol, ext, 0, 0⟩)
      { s with revs := s.revs ++ [⟨vol, ext, reason, awaited, s.now + Config.revokeWindow, party⟩] }

/-- Open RECLAIM records (R82). -/
def State.reclaimOpen (s : State) : Nat := s.revs.countP fun r => r.reason = .reclaim

/-- Reclaim looks at one grant entry: a candidate gets a RECLAIM record while no limit is met (R82). -/
def State.reclaimOne (s : State) (g : Grant) : State :=
  if s.reclaimOpen < Config.reclaimMax ∧ s.revFree = true ∧ s.revAt g.vol g.ext = none then
    s.openRev g.vol g.ext .reclaim g.holderHeads .reclaim
  else s

/-- The end of an event for reclaim: its state follows the free entries, and while ACTIVE it opens records from the
oldest end of the age order (R82, R86). -/
def State.reclaimEnd (s : State) : State :=
  let s1 := { s with reclaim := reclaimAfter s.reclaim s.freeGrants }
  if s1.reclaim then s1.grants.foldl State.reclaimOne s1 else s1

/-! ### Replies to WRITE-MAP -/

/-- One reply segment of a WRITE-MAP, judged as the reply is sent (R68). No entry is PENDING there (R68); the arm
reads one at its old location, which still holds its data (R6). -/
def State.writeSegment (s : State) (vol : Nat) (g : ReplySeg) : Segment :=
  match s.entry vol g.ext with
  | .mapped k c | .pending k c _ =>
      if (s.shelf k).state = .online then ⟨.data, k, blockOf c g.offset, g.length, g.granted⟩
      else ⟨.down, k, blockOf c g.offset, g.length, false⟩
  | .unmapped => ⟨.hole, 0, 0, g.length, false⟩

/-- The reply to a WRITE-MAP whose waits have ended (R68, R69). -/
def State.sendWriteReply (s : State) (r : ReplyRec) : State :=
  if r.media then s.answer r.who .media (.words [])
  else s.answer r.who .ok (.segments (r.segs.map (s.writeSegment r.vol)))

/-- The reply record of an identity. -/
def State.replyRec (s : State) (id : Nat) : Option ReplyRec := s.replies.find? fun r => r.id = id

/-- A reply record changed. -/
def State.updReply (s : State) (id : Nat) (f : ReplyRec → ReplyRec) : State :=
  { s with replies := s.replies.map fun r => if r.id = id then f r else r }

/-- One wait of a reply record ends; after the last, the reply is sent and the record freed (R64, R65). `gaveUp` says
that the wait was a COW that gave up, which makes the outcome MEDIA. -/
def State.endWait (s : State) (id : Nat) (gaveUp : Bool) : State :=
  match s.replyRec id with
  | none => s
  | some r =>
      let r1 := { r with waits := r.waits - 1, media := r.media || gaveUp }
      if r1.waits = 0 then
        { s with replies := s.replies.filter fun x => x.id ≠ id }.sendWriteReply r1
      else s.updReply id fun _ => r1

end Sys2Proof.Machine
end

