-- ==== Sys2Proof/Machine/Jobs.lean ====
section
/-! DEFINITION. The Sweep Engine: the job queue (R149, R150), the DELETE and TRIM walk (R151 to R157), pausing (R160). -/

namespace Sys2Proof.Machine

/-- The volume a job unmaps or builds (R149). -/
def JobWork.vol : JobWork → Nat
  | .delete v => v
  | .trim v _ _ => v
  | .clone v _ => v

/-- A job names a volume: its own, or a CLONE job's parent (R143). -/
def JobWork.names (w : JobWork) (v : Nat) : Bool :=
  match w with
  | .delete u => u = v
  | .trim u _ _ => u = v
  | .clone u p => u = v || p = v

/-- A job in the queue names the volume (R143). -/
def State.jobNames (s : State) (v : Nat) : Bool := s.jobs.any fun j => j.work.names v

/-- The TRIMMING gate: an extent index lies in the unprocessed part of a TRIM job on the volume (R58, R151). -/
def State.trimming (s : State) (v ext : Nat) : Bool :=
  s.jobs.any fun j =>
    match j.work with
    | .trim u _ _ => u = v && j.cursor ≤ ext && ext < j.endIdx
    | .delete _ | .clone _ _ => false

/-- The job at the head of the queue (R150). -/
def State.headJob (s : State) : Option Job := s.jobs.head?

/-- The head job's record replaced. -/
def State.setHeadJob (s : State) (j : Job) : State :=
  match s.jobs with
  | [] => s
  | _ :: rest => { s with jobs := j :: rest }

/-- A head job that is WAITING becomes RUNNING (R150). -/
def State.startHead (s : State) : State :=
  match s.jobs with
  | [] => s
  | j :: rest => if j.state = .waiting then { s with jobs := { j with state := .running } :: rest } else s

/-- The number the next job takes: the counter's value, or the next one in wrapping order that no queued job holds
(R143). -/
def State.jobNumber (s : State) : Nat :=
  match lowestFrom (fun i => !(s.jobs.any fun j => j.number = (s.nextJob + i) % 256)) 6 0 with
  | some i => (s.nextJob + i) % 256
  | none => s.nextJob

/-- A job is queued at the tail in state WAITING, and starts if it is the head (R143, R150). -/
def State.queueJob (s : State) (work : JobWork) (cursor endIdx : Nat) : State :=
  State.startHead
    { s with
      jobs := s.jobs ++ [⟨s.jobNumber, work, cursor, endIdx, .waiting, 0⟩]
      nextJob := (s.jobNumber + 1) % 256 }

/-- The answer to a pending JOB-PAUSE, if there is one (R160). -/
def State.answerPause (s : State) (status : Status) : State :=
  match s.pause with
  | none => s
  | some w => { s with pause := none }.answer w status (.words [])

/-- A pending pause takes effect as a step completes (R160). -/
def State.pauseNow (s : State) : State :=
  match s.pause, s.headJob with
  | some _, some j => (s.setHeadJob { j with state := .paused }).answerPause .ok
  | _, _ => s

/-- The head job leaves the queue with a JOB notice; a pending JOB-PAUSE is answered NOT-RUNNING and the next job
starts (R150, R156, R157, R159, R160). -/
def State.endJob (s : State) (j : Job) : State :=
  let s1 := { s with jobs := s.jobs.tail, jobWait := .none }
  let s2 := s1.notifyAll ⟨.job, j.work.code, j.number, j.work.vol, j.processed, 0⟩
  (s2.answerPause .notRunning).startHead

/-- The conditions under which a walked DELETE ends: no open record and no pass on its volume (R157). -/
def State.deleteReady (s : State) (v : Nat) : Bool :=
  !(s.revs.any fun r => r.vol = v) && !(s.passes.any fun p => p.vol = v)

/-- The end of a DELETE job (R157, R3, R9). -/
def Ev.deleteEnd (ev : Ev) (j : Job) (v : Nat) : Ev :=
  (ev.freeVolumeGrants v).map fun s =>
    let r := s.volume v
    let s1 := s.setVolume v Volume.freeRecord
    let s2 := s1.setFamily r.family (s1.family r.family - 1)
    let s3 := s2.updTenant r.tenant fun t => { t with volumes := t.volumes - 1 }
    s3.endJob j

/-- A DELETE that waits END tests its two conditions, at the close of a record and at the end of a pass on its
volume (R157). -/
def Ev.deleteEndTest (ev : Ev) (v : Nat) : Ev :=
  match ev.st.headJob with
  | some j =>
      if j.work = .delete v ∧ j.state = .running ∧ ev.st.jobWait = .endWait ∧ ev.st.deleteReady v = true then
        ev.deleteEnd j v
      else ev
  | none => ev

/-- The cursor moved to the lowest index at or above it that lies in a present slot, limited to the end index (R151). -/
def Volume.nextPresent (r : Volume) (cursor endIdx : Nat) : Nat :=
  if endIdx ≤ cursor then cursor
  else if r.slotPresent cursor then cursor
  else
    match ((r.dir.map Prod.fst).filter fun k => dirSlot cursor < k).min? with
    | none => endIdx
    | some k => min endIdx (k * Config.pageEntries)

/-- After a step: the cursor moves on; a walk that is done goes to its end, else a pending pause takes effect
(R151, R156, R157, R160). -/
def Ev.walkOn (ev : Ev) : Ev :=
  match ev.st.headJob with
  | none => ev
  | some j =>
      let c := (ev.st.volume j.work.vol).nextPresent j.cursor j.endIdx
      let j1 := { j with cursor := c }
      let ev1 := ev.map fun s => s.setHeadJob j1
      if j.endIdx ≤ c then
        match j.work with
        | .trim _ _ _ => ev1.map fun s => s.endJob j1
        | .delete v =>
            if ev1.st.deleteReady v then ev1.deleteEnd j1 v
            else ev1.map fun s => { s with jobWait := .endWait }
        | .clone _ _ => ev1
      else ev1.map State.pauseNow

/-- A step unmaps a MAPPED entry (R153, R155) and the walk goes on. -/
def Ev.jobUnmap (ev : Ev) (j : Job) (v c : Nat) (k : ShelfNo) (slot : Nat) : Ev :=
  let ev1 := (ev.map fun s => s.setEntry v c .unmapped).dropRef k slot
  let ev2 := ev1.map fun s =>
    let s1 := s.updVolume v fun r => { r with allocated := r.allocated - 1 }
    let s2 := s1.updTenant (s1.volume v).tenant fun t => { t with charged := t.charged - 1 }
    let s3 := (s2.releasePage v c).markTest v
    s3.setHeadJob { j with cursor := c + 1, processed := j.processed + 1 }
  ev2.walkOn

/-- A step on a MAPPED entry looks at its key (R152). -/
def Ev.jobMapped (ev : Ev) (j : Job) (v c : Nat) (reason : RevReason) (k : ShelfNo) (slot : Nat) : Ev :=
  if (ev.st.revAt v c).isSome then ev.map fun s => { s with jobWait := .keyRecord v c }
  else if (ev.st.grantAt v c).isNone then ev.jobUnmap j v c k slot
  else if ev.st.revFree then
    ev.map fun s => { (s.openRev v c reason (s.holdersOf v c) .job) with jobWait := .revocation v c }
  else ev.map fun s => { s with jobWait := .record v c }

/-- A RUNNING DELETE or TRIM job takes, or looks afresh at, the extent index at its cursor (R151, R152, R154). -/
def Ev.walkStep (ev : Ev) (j : Job) (v : Nat) (reason : RevReason) : Ev :=
  let c := (ev.st.volume v).nextPresent j.cursor j.endIdx
  let j1 := { j with cursor := c }
  let ev1 := ev.map fun s => { (s.setHeadJob j1) with jobWait := .none }
  if j.endIdx ≤ c then ev1.walkOn
  else
    match ev1.st.entry v c with
    | .unmapped => (ev1.map fun s => s.setHeadJob { j1 with cursor := c + 1 }).walkOn
    | .pending _ _ _ => ev1.map fun s => { s with jobWait := .cow v c }
    | .mapped k slot => ev1.jobMapped j1 v c reason k slot

/-- The step of the head job, when that job is a RUNNING DELETE or TRIM. -/
def Ev.jobLook (ev : Ev) : Ev :=
  match ev.st.headJob with
  | none => ev
  | some j =>
      if j.state = .running then
        match j.work with
        | .delete v => ev.walkStep j v .delete
        | .trim v _ _ => ev.walkStep j v .trim
        | .clone _ _ => ev
      else ev

/-- The head job's step waits for the record open on a key, another party's or its own (R152). -/
def State.jobAwaits (s : State) (v e : Nat) : Bool :=
  decide (s.jobWait = .keyRecord v e) || decide (s.jobWait = .revocation v e)

/-- A record on a key has closed: the step that waited for it as it closed goes on (R152). -/
def Ev.jobOnClose (ev : Ev) (waited : Bool) : Ev := if waited then ev.jobLook else ev

/-- A COW on a key has ended: the step that waited for it looks at the key afresh, as a new step on the same index
(R154). A pause that is pending waits on until the step completes, that is, until the entry is unmapped (R160): DESIGN
CHOICE, log entry 30. -/
def Ev.jobOnCow (ev : Ev) (v e : Nat) : Ev := if ev.st.jobWait = .cow v e then ev.jobLook else ev

/-- A step that waits for a revocation record has first claim on a free one (R86, R152). -/
def Ev.jobOnRecord (ev : Ev) : Ev :=
  match ev.st.jobWait with
  | .record _ _ => if ev.st.revFree then ev.jobLook else ev
  | .none | .keyRecord _ _ | .revocation _ _ | .cow _ _ | .endWait => ev

end Sys2Proof.Machine
end

