-- ==== Sys2Proof/Machine/Passes.lean ====
section
/-! DEFINITION. Downgrade passes (R95 to R100). -/

namespace Sys2Proof.Machine

/-- A COW is in progress on the volume (R98). -/
def State.cowOn (s : State) (v : Nat) : Bool := s.cows.any fun p => p.2.vol = v

/-- The pass of a start order. -/
def State.passOf (s : State) (seq : Nat) : Option Pass := s.passes.find? fun p => p.seq = seq

/-- A pass record changed. -/
def State.updPass (s : State) (seq : Nat) (f : Pass → Pass) : State :=
  { s with passes := s.passes.map fun p => if p.seq = seq then f p else p }

/-- The cause is FREEZE. -/
def PassCause.isFreeze : PassCause → Bool
  | .freeze _ => true
  | .clone _ => false

/-- A FREEZE pass runs on the volume (R139, R140). -/
def State.freezePassOn (s : State) (v : Nat) : Bool := s.passes.any fun p => p.vol = v && p.cause.isFreeze

/-- A pass ends: its record is freed and its waiting party acts (R99). A DELETE that waits for that end ends too (R157);
no rule orders its JOB notice and the answer of a VOL-FREEZE, so the notice leaves first (R174). -/
def Ev.passEnd (ev : Ev) (p : Pass) : Ev :=
  let ev1 := ((ev.map fun s => { s with passes := s.passes.filter fun q => q.seq ≠ p.seq }).release
    .passRoom).deleteEndTest p.vol
  match p.cause with
  | .freeze w => ev1.map fun s => s.answer w .ok (.words [])
  | .clone _ => ev1

/-- A pass tests its end (R98, R99). -/
def Ev.passTest (ev : Ev) (seq : Nat) : Ev :=
  match ev.st.passOf seq with
  | none => ev
  | some p => if p.todo = [] ∧ p.outstanding = 0 ∧ ev.st.cowOn p.vol = false then ev.passEnd p else ev

/-- A DOWNGRADE record of a pass is opened on a key, awaiting its WRITE holders (R85, R97). -/
def State.openDowngrade (s : State) (seq v e : Nat) : State :=
  (s.openRev v e .downgrade (s.writersOf v e) (.pass seq)).updPass seq fun p => { p with outstanding := p.outstanding + 1 }

/-- A pass examines keys in ascending order: the state, the keys that stay, and the ready key at which it stopped
for want of a record (R97). -/
def State.examineKeys (s : State) (seq v : Nat) : List Nat → State × List Nat × Option Nat
  | [] => (s, [], none)
  | e :: more =>
      if (s.writersOf v e).isEmpty then s.examineKeys seq v more
      else if (s.revAt v e).isSome then
        let r := s.examineKeys seq v more
        (r.1, e :: r.2.1, r.2.2)
      else if s.revFree then (s.openDowngrade seq v e).examineKeys seq v more
      else (s, e :: more, some e)

/-- A pass examines its to-do set and tests its end (R97, R99). -/
def Ev.passExamine (ev : Ev) (seq : Nat) : Ev :=
  match ev.st.passOf seq with
  | none => ev
  | some p =>
      let r := ev.st.examineKeys seq p.vol p.todo
      Ev.passTest { ev with st := r.1.updPass seq fun q => { q with todo := r.2.1, waiting := r.2.2 } } seq

/-- A pass that is handed a record opens it on the ready key at which it stopped, and then goes on examining (R86). -/
def Ev.passHanded (ev : Ev) (seq : Nat) : Ev :=
  match ev.st.passOf seq with
  | none => ev
  | some p =>
      match p.waiting with
      | none => ev
      | some e =>
          if (ev.st.writersOf p.vol e).isEmpty ∨ (ev.st.revAt p.vol e).isSome then ev.passExamine seq
          else
            (ev.map fun s =>
              (s.openDowngrade seq p.vol e).updPass seq fun q => { q with todo := q.todo.erase e }).passExamine seq

/-- A key with a WRITE holder is added to the to-do sets of the passes on its volume, which then act (R96, R97). -/
def Ev.addTodo (ev : Ev) (v e : Nat) : Ev :=
  let adds := ev.st.passes.filter fun p => p.vol = v && !p.todo.contains e
  adds.foldl
    (fun ev p => (ev.map fun s => s.updPass p.seq fun q => { q with todo := q.todo.orderedInsert (· ≤ ·) e }).kickPass p.seq)
    ev

/-- The passes whose to-do set holds a key act when a record on it closes (R97). -/
def Ev.kickOnKey (ev : Ev) (v e : Nat) : Ev :=
  (ev.st.passes.filter fun p => p.vol = v && p.todo.contains e).foldl (fun ev p => ev.kickPass p.seq) ev

/-- The passes on a volume act when its last COW has ended (R98). -/
def Ev.kickOnVolume (ev : Ev) (v : Nat) : Ev :=
  if ev.st.cowOn v then ev
  else (ev.st.passes.filter fun p => p.vol = v).foldl (fun ev p => ev.kickPassCow p.seq) ev

/-- The volume's keys with a WRITE holder, in ascending extent index (R95). -/
def State.writeKeys (s : State) (v : Nat) : List Nat :=
  ((s.grants.filter fun g => g.vol = v && !g.writers.isEmpty).map Grant.ext).insertionSort (· ≤ ·)

/-- A pass record is free (R95). -/
def State.passFree (s : State) : Bool := s.passes.length < Config.passMax

/-- A pass record is taken and its to-do set filled (R95 steps 2 and 3). -/
def State.takePass (s : State) (v : Nat) (cause : PassCause) : State :=
  { s with passes := s.passes ++ [⟨s.passSeq, v, cause, s.writeKeys v, 0, none⟩], passSeq := s.passSeq + 1 }

end Sys2Proof.Machine
end

