-- ==== Sys2Proof/Machine/Cow.lean ====
section
/-! DEFINITION. The Copy Unit: COW records, their start, two completions, failures, retry and give-up (spec/06). -/

namespace Sys2Proof.Machine

/-- The COW record of a number. -/
def State.cow (s : State) (n : Nat) : Option Cow := Table.find? s.cows n

/-- A COW record written. -/
def State.setCow (s : State) (n : Nat) (c : Cow) : State := { s with cows := Table.insert s.cows n c }

/-- The lowest-numbered free COW record (log entry 5). -/
def State.freeCow (s : State) : Nat :=
  (lowestFrom (fun n => (s.cow n).isNone) Config.cowMax 0).getD 0

/-- A COW starts on a shared segment: record, new extent, entry and order (R104 steps 1 to 4). The revoke state is
CLEAR from the start when the key has no holder but the requester (R104 step 5). -/
def State.startCow (s : State) (v e : Nat) (k : ShelfNo) (h : Head) (t : Tag) (reply seg : Nat) : State :=
  match s.entry v e with
  | .mapped ok oc =>
      let n := s.freeCow
      let slot := s.freeHead k
      let s1 := s.setCow n
        { vol := v, ext := e, oldShelf := ok, oldSlot := oc, newShelf := k, newSlot := slot, copied := false,
          clear := (s.othersOf v e h).isEmpty, attempt := 1, head := h, tag := t, reply := reply, seg := seg }
      let s2 := s1.updShelf k fun sh => (sh.takeFree .copyTarget 0).queueOrder (.copy ok oc slot n)
      s2.setEntry v e (.pending ok oc n)
  | .unmapped | .pending _ _ _ => s

/-- A COW has ended: what waited on it is released (R107, R111). -/
def Ev.cowEnded (ev : Ev) (v e : Nat) : Ev :=
  (((ev.release .cowRoom).release (.key v e)).jobOnCow v e).kickOnVolume v

/-- The requester may be recorded as a WRITE holder at a finish (R108). -/
def State.cowGrants (s : State) (c : Cow) : Bool :=
  (match s.replyRec c.reply with
    | none => false
    | some r => !r.who.fenced && !r.who.detached)
  && decide ((s.head c.head).link = .up)
  && (s.revAt c.vol c.ext).isNone
  && ((s.grantAt c.vol c.ext).isSome || s.grants.length < Config.grantMax)

/-- The grant of a finish: the requester's record becomes WRITE, its segment counts as granted, and the passes on the
volume take the key (R96, R108). -/
def Ev.cowGrant (ev : Ev) (c : Cow) : Ev :=
  if ev.st.cowGrants c then
    (ev.map fun s =>
      (s.setHolder c.vol c.ext c.head .write).updReply c.reply fun r =>
        { r with segs := r.segs.modify c.seg fun g => { g with granted := true } }).addTodo c.vol c.ext
  else ev

/-- A COW finishes (R107). -/
def Ev.cowFinish (ev : Ev) (n : Nat) (c : Cow) : Ev :=
  let ev1 := ev.map fun s =>
    (s.setEntry c.vol c.ext (.mapped c.newShelf c.newSlot)).updShelf c.newShelf fun sh => sh.setSlot c.newSlot .inUse 1
  let ev2 := (ev1.dropRef c.oldShelf c.oldSlot).cowGrant c
  let ev3 := ev2.map fun s => { (s.endWait c.reply false) with cows := Table.erase s.cows n }
  ev3.cowEnded c.vol c.ext

/-- A COW gives up: the entry returns to O and the outcome becomes MEDIA (R111). Its revocation record, if open,
loses its waiting party (R112). -/
def Ev.cowGiveUp (ev : Ev) (n : Nat) (c : Cow) : Ev :=
  let ev1 := ev.map fun s =>
    let s1 := s.setEntry c.vol c.ext (.mapped c.oldShelf c.oldSlot)
    let s2 := s1.endWait c.reply true
    { s2 with
      cows := Table.erase s2.cows n
      revs := s2.revs.map fun r => if r.party = .cow n then { r with party := .orphan } else r }
  ev1.cowEnded c.vol c.ext

/-- The current COPY of a COW is answered DONE (R105). -/
def Ev.cowCopied (ev : Ev) (n : Nat) : Ev :=
  match ev.st.cow n with
  | none => ev
  | some c =>
      if c.clear then ev.cowFinish n { c with copied := true }
      else ev.map fun s => s.setCow n { c with copied := true }

/-- The COW revocation on the key has closed (R106). -/
def Ev.cowCleared (ev : Ev) (n : Nat) : Ev :=
  match ev.st.cow n with
  | none => ev
  | some c =>
      if c.copied then ev.cowFinish n { c with clear := true }
      else ev.map fun s => s.setCow n { c with clear := true }

/-- A fault record is pushed into a head's history, unless its link is DARK (R113, R178). -/
def State.pushFault (s : State) (h : Head) (f : FaultRec) : State :=
  if (s.head h).link = .dark then s
  else s.updHead h fun r => { r with faultSecond := r.faultFirst, faultFirst := some f }

/-- The shelf a retry places its new extent on, when its three conditions hold (R110). -/
def State.retryShelf (s : State) (c : Cow) : Option ShelfNo :=
  if (s.shelf c.oldShelf).state = .online then
    match s.pickShelf (s.volume c.vol).mask (s.volume c.vol).cursor [] false with
    | none => none
    | some k => if (s.shelf k).orders.length < Config.orderMax then some k else none
  else none

/-- A retry: a new extent, the second attempt and its COPY order (R110). -/
def Ev.cowRetry (ev : Ev) (n : Nat) (c : Cow) (k : ShelfNo) : Ev :=
  (ev.map fun s =>
    let slot := s.freeHead k
    let s1 := s.updShelf k fun sh => (sh.takeFree .copyTarget 0).queueOrder (.copy c.oldShelf c.oldSlot slot n)
    let s2 := s1.updVolume c.vol fun r => { r with cursor := k + 1 }
    (s2.setCow n { c with newShelf := k, newSlot := slot, attempt := 2 }).evalCond k).runShelf k

/-- The current COPY of a COW has failed and N has been dealt with: the fault record, then retry or give-up
(R109, R110, R113). -/
def Ev.cowFailed (ev : Ev) (n : Nat) (cause : CopyFail) : Ev :=
  match ev.st.cow n with
  | none => ev
  | some c =>
      let at_ : FaultRec :=
        if cause = .source then ⟨c.oldShelf, c.oldSlot, cause⟩ else ⟨c.newShelf, c.newSlot, cause⟩
      let ev1 := ev.map fun s => s.pushFault c.head at_
      if c.attempt = 1 ∧ cause ≠ .source then
        match ev1.st.retryShelf c with
        | some k => ev1.cowRetry n c k
        | none => ev1.cowGiveUp n c
      else ev1.cowGiveUp n c

end Sys2Proof.Machine
end

