-- ==== Sys2Proof/Machine/Close.lean ====
section
/-! DEFINITION. The closing of revocation records (R89), fencing (R92), and link loss at the Revocation Unit (R94). -/

namespace Sys2Proof.Machine

/-- One of a pass's DOWNGRADE records has closed (R89, R99). -/
def Ev.passClosed (ev : Ev) (seq : Nat) : Ev :=
  (ev.map fun s => s.updPass seq fun p => { p with outstanding := p.outstanding - 1 }).passTest seq

/-- The waiting party of a closed record acts (R89 step 2). The job's step acts by `jobOnClose`. -/
def Ev.partyActs (ev : Ev) : RevParty → Ev
  | .reply id => ev.map fun s => s.endWait id false
  | .cow n => ev.cowCleared n
  | .pass seq => ev.passClosed seq
  | .job | .reclaim | .orphan => ev

/-- A closed record that leaves a WRITE holder on its key adds the key to the passes on the volume (R96). -/
def Ev.todoOnClose (ev : Ev) (v e : Nat) : Ev :=
  if (ev.st.writersOf v e).isEmpty then ev else ev.addTodo v e

/-- A revocation record closes (R89): it is freed, its waiting party acts, and what waited for the close goes on.
The job's step goes on if it waited for this record as it closed: one that a COW's finish lets look afresh has then
looked (R154). The freed record is handed out and the held list re-examined when the event settles. -/
def Ev.closeRev (ev : Ev) (r : Rev) : Ev :=
  let ev1 := ((ev.map fun s =>
    { s with revs := s.revs.filter fun x => !(x.vol = r.vol && x.ext = r.ext) }).release .revokeRoom).release
      (.key r.vol r.ext)
  let ev2 := (ev1.partyActs r.party).todoOnClose r.vol r.ext
  ((ev2.jobOnClose (ev.st.jobAwaits r.vol r.ext)).kickOnKey r.vol r.ext).deleteEndTest r.vol

/-- Records whose awaited set is empty close, in the order they were opened (log entry 6); no rule orders their frames
(R174; log entry 7). -/
def Ev.closeEmpty (fuel : Nat) (ev : Ev) : Ev :=
  match fuel with
  | 0 => ev
  | fuel + 1 =>
      match ev.st.revs.find? fun r => r.awaited.isEmpty with
      | none => ev
      | some r => ev.thenApart (fun ev => ev.closeRev r) fun ev => Ev.closeEmpty fuel ev

/-- A head leaves the awaited set of a key's open record, which closes if the set is then empty (R88, R70). -/
def Ev.leaveAwaited (ev : Ev) (v e : Nat) (h : Head) : Ev :=
  match ev.st.revAt v e with
  | none => ev
  | some r =>
      let r1 := { r with awaited := r.awaited.filter fun k => k ≠ h }
      let ev1 := ev.map fun s =>
        { s with revs := s.revs.map fun x => if x.vol = v && x.ext = e then r1 else x }
      if r1.awaited.isEmpty then ev1.closeRev r1 else ev1

/-- A head awaited on a key returns its translation: its holder record is removed and it leaves the set (R88). -/
def Ev.giveBack (ev : Ev) (v e : Nat) (h : Head) : Ev := (ev.dropHolder v e h).leaveAwaited v e h

/-- A head loses every holder record and every awaited place; records left with an empty set close (R92 stages 4 and
5, R94). -/
def Ev.stripHead (ev : Ev) (h : Head) : Ev :=
  let ev1 := (ev.dropAllHolders h).map fun s =>
    { s with revs := s.revs.map fun r => { r with awaited := r.awaited.filter fun k => k ≠ h } }
  ev1.closeEmpty ev1.st.revs.length

/-- Every request that waits for work in progress has its marks changed (R69, R92 stage 3, R167): reply records,
VOL-FREEZE, JOB-PAUSE and SHELF-JOIN. -/
def State.mapWaiters (s : State) (f : Waiter → Waiter) : State :=
  { s with
    replies := s.replies.map fun r => { r with who := f r.who }
    passes := s.passes.map fun p =>
      match p.cause with
      | .freeze w => { p with cause := .freeze (f w) }
      | .clone _ => p
    pause := s.pause.map f
    shelves := s.shelves.map fun sh => { sh with join := sh.join.map fun j => { j with who := f j.who } } }

/-- The fenced mark on the waiting requests of a head (R92 stage 3). -/
def State.markFenced (s : State) (h : Head) : State :=
  s.mapWaiters fun w => if w.head = h then { w with fenced := true } else w

/-- The detached mark on the waiting requests of a head (R69, R167). -/
def State.markDetached (s : State) (h : Head) : State :=
  s.mapWaiters fun w => if w.head = h then { w with detached := true } else w

/-- The held entries that pass a test leave the list, which releases KEY on their keys (R73), for the entries of other
heads too, also at a link loss, for which R76 says otherwise (DESIGN CHOICE, log entry 36); each is answered with the
status given, or without reply. The answers leave in arrival order, which neither R77 nor R78 gives (DESIGN CHOICE, log
entry 33). -/
def Ev.leaveHeldIf (ev : Ev) (p : Held → Bool) (status : Option Status) : Ev :=
  let out := ev.st.held.filter p
  let ev1 := ev.map fun s => { s with held := s.held.filter fun x => !p x }
  let ev2 := ev1.releaseAll ((out.flatMap fun x => x.req.keys).map fun k => .key k.1 k.2)
  match status with
  | none => ev2
  | some st => ev2.map fun s => out.foldl (fun s x => s.refuse x.head x.tag st) s

/-- The fencing of a head by the expiry of the record on key (v, e), stages 1 to 6 of R92. -/
def Ev.fenceHead (ev : Ev) (v e : Nat) (h : Head) : Ev :=
  let ev1 := ev.map fun s => s.updHead h fun r => { r with link := .fenced }
  let ev2 := ev1.leaveHeldIf (fun x => x.head = h) (some .fenced)
  let ev3 := (ev2.map fun s => s.markFenced h).stripHead h
  ev3.map fun s => s.notify h ⟨.fence, 0, h.val, v, e, 0⟩

/-- The loss of a head's link, at every block that owns work of the head (R167, R76, R94, R179). -/
def Ev.loseHead (ev : Ev) (h : Head) : Ev :=
  let ev1 := ev.map fun s => s.updHead h fun r =>
    { r with link := .dark, tags := [], pending := ⟨none, none, none, none⟩, fence := none, faultFirst := none,
             faultSecond := none }
  let ev2 := ev1.leaveHeldIf (fun x => x.head = h) none
  (ev2.map fun s => s.markDetached h).stripHead h

end Sys2Proof.Machine
end

