-- ==== Sys2Proof/Machine/Held.lean ====
section
/-! DEFINITION. The held list (R71 to R75), the steps of READ-MAP and WRITE-MAP (R56 to R68), admission (R42 to R44) and
commit (R45, R62, R63), and VOL-FREEZE and VOL-CLONE, which can be held too (R139, R146, R147). -/

namespace Sys2Proof.Machine

/-! ### The held list -/

/-- What the steps of a request say: answer a refusal, hold for a reason, or go on with what they found. -/
inductive Verdict (α : Type) where
  | refuse (status : Status)
  | hold (reason : Reason)
  | go (x : α)
deriving DecidableEq, Repr

/-- A request is held: one on the list keeps its entry and takes the new reason; another takes an entry at the tail, or
is answered BACKLOG when the list is full (R72). `own` is the arrival sequence of a request on the list. -/
def Ev.hold (ev : Ev) (h : Head) (t : Tag) (req : HeldReq) (reason : Reason) (own : Option Nat) : Ev :=
  match own with
  | some q =>
      ev.map fun s => { s with held := s.held.map fun x => if x.seq = q then { x with reason := reason } else x }
  | none =>
      if ev.st.held.length < Config.heldMax then
        ev.map fun s => { s with held := s.held ++ [⟨h, t, req, reason, s.heldSeq⟩], heldSeq := s.heldSeq + 1 }
      else ev.map fun s => s.refuse h t .backlog

/-- A request that is answered or proceeds leaves the list, if it was on it, which releases KEY on its keys
(R73, R74). -/
def Ev.leave (ev : Ev) (own : Option Nat) : Ev :=
  match own with
  | none => ev
  | some q => ev.leaveHeldIf (fun x => x.seq = q) none

/-- An entry of the list arrived before the request that is judged: any entry for a request not on the list (R59; log
entry 8). -/
def Held.before (x : Held) (own : Option Nat) : Bool :=
  match own with
  | none => true
  | some q => x.seq < q

/-! ### Gates and key holds -/

/-- The volume-state gate of READ-MAP (R57): none when it passes. -/
def VolState.readGate : VolState → Option Status
  | .active | .frozen | .source => none
  | .building | .free => some .noVolume
  | .deleting => some .gone

/-- The volume-state gate of WRITE-MAP (R57): none when it passes. -/
def VolState.writeGate : VolState → Option Status
  | .active => none
  | .frozen => some .frozen
  | .source => some .sourceBusy
  | .building | .free => some .noVolume
  | .deleting => some .gone

/-- An entry is PENDING. -/
def MapEntry.isPending : MapEntry → Bool
  | .pending _ _ _ => true
  | .unmapped | .mapped _ _ => false

/-- A key is blocked for a head (R59). -/
def State.blocked (s : State) (h : Head) (v e : Nat) (own : Option Nat) : Bool :=
  (s.entry v e).isPending
    || (s.revAt v e).isSome
    || s.held.any fun x => x.head = h && x.before own && x.req.keys.contains (v, e)

/-- The key hold of a request: the first blocked key in segment order (R59). -/
def State.keyHold (s : State) (h : Head) (v : Nat) (segs : List Seg) (own : Option Nat) : Option Reason :=
  (segs.find? fun g => s.blocked h v g.ext own).map fun g => .key v g.ext

/-- The grant table has a free entry for each key that has none (R61, R44). -/
def State.grantRoom (s : State) (v : Nat) (segs : List Seg) : Bool :=
  s.grants.length + segs.countP (fun g => (s.grantAt v g.ext).isNone) ≤ Config.grantMax

/-! ### READ-MAP -/

/-- Steps 2 to 7 of READ-MAP (R56). The range check is made once, as the request is first taken (R15). -/
def State.readVerdict (s : State) (h : Head) (v lba n : Nat) (own : Option Nat) : Verdict Unit :=
  match (s.volume v).state.readGate with
  | some st => .refuse st
  | none =>
      if own.isNone && !inRange lba n (s.volume v).size then .refuse .range
      else
        match s.keyHold h v (segments lba n) own with
        | some r => .hold r
        | none => if s.grantRoom v (segments lba n) then .go () else .hold .grantRoom

/-- One reply segment of a READ-MAP (R60). No entry is PENDING there; the arm reads one at its old location. -/
def State.readSegment (s : State) (v : Nat) (g : Seg) : Segment :=
  match s.entry v g.ext with
  | .unmapped => ⟨.hole, 0, 0, g.length, false⟩
  | .mapped k c | .pending k c _ =>
      if (s.shelf k).state = .online then ⟨.data, k, blockOf c g.offset, g.length, false⟩
      else ⟨.down, k, blockOf c g.offset, g.length, false⟩

/-- The answer to a READ-MAP: a holder record on every key, segment 0 first, and the reply (R60, R61). -/
def State.readAnswer (s : State) (h : Head) (t : Tag) (v lba n : Nat) : State :=
  let s1 := (segments lba n).foldl (fun s g => s.touchHolder v g.ext h) s
  s1.reply h t .ok (.segments ((segments lba n).map (s.readSegment v)))

/-- A READ-MAP from step 2 on (R56, R74). -/
def Ev.readMap (ev : Ev) (h : Head) (t : Tag) (v lba n : Nat) (own : Option Nat) : Ev :=
  match ev.st.readVerdict h v lba n own with
  | .refuse st => (ev.leave own).map fun s => s.refuse h t st
  | .hold r => ev.hold h t (.readMap v lba n) r own
  | .go _ => (ev.leave own).map fun s => s.readAnswer h t v lba n

/-! ### WRITE-MAP: admission -/

/-- The kind of a segment at a commit (R19, section 4.3). The key holds have held a PENDING entry; the arm counts it
in none of k, p and w. -/
def State.segKind (s : State) (v e : Nat) : SegKind :=
  match s.entry v e with
  | .unmapped => .fresh
  | .mapped k c => if 1 < (s.shelf k).refs c then .shared else .unshared
  | .pending _ _ _ => .unshared

/-- The segments of a kind. -/
def State.segsOf (s : State) (v : Nat) (segs : List Seg) (kind : SegKind) : List Seg :=
  segs.filter fun g => s.segKind v g.ext = kind

/-- p: the distinct absent directory slots that hold an UNMAPPED segment (R19). -/
def State.pagesNeeded (s : State) (v : Nat) (segs : List Seg) : Nat :=
  (((s.segsOf v segs .fresh).filter fun g => !(s.volume v).slotPresent g.ext).map fun g => dirSlot g.ext).dedup.length

/-- The old extent of a segment lies on an ONLINE shelf (check 7 of R42). -/
def State.oldShelfOnline (s : State) (v : Nat) (g : Seg) : Bool :=
  match s.entry v g.ext with
  | .mapped k _ => (s.shelf k).state = .online
  | .unmapped | .pending _ _ _ => true

/-- The commit of a segment opens a revocation: fresh or shared, with holders other than the requester (R63, R104). -/
def State.opensRev (s : State) (h : Head) (v : Nat) (g : Seg) : Bool :=
  s.segKind v g.ext ≠ .unshared && !(s.othersOf v g.ext h).isEmpty

/-- The admission checks 2 to 7 (R42) and the room checks (R44), on the tentative picks of R40: the shelves picked,
fresh picks first, and the cursor they leave. When the COW picks lie on two shelves that both lack list room, ORDER-ROOM
names the one picked first: R44 says "naming that shelf" of one (DESIGN CHOICE, log entry 29). -/
def State.admission (s : State) (h : Head) (v : Nat) (segs : List Seg) : Verdict (List ShelfNo × ShelfNo) :=
  let r := s.volume v
  let t := s.tenant r.tenant
  let k := (s.segsOf v segs .fresh).length
  let w := (s.segsOf v segs .shared).length
  let p := s.pagesNeeded v segs
  if r.quota < r.allocated + k ∧ k ≠ 0 then .refuse .quota
  else if t.limit < t.charged + t.promised + k ∧ k ≠ 0 then .refuse .tenantLimit
  else if s.poolFree - s.reserved < p then .refuse .noPage
  else
    match s.pickAll r.mask r.cursor [] (List.replicate k true ++ List.replicate w false) with
    | none => .refuse .noSpace
    | some (picks, cursor) =>
        if !((s.segsOf v segs .shared).all fun g => s.oldShelfOnline v g) then .refuse .shelfDown
        else if w ≠ 0 ∧ Config.cowMax < s.cows.length + w then .hold .cowRoom
        else if segs.countP (s.opensRev h v) ≠ 0 ∧ Config.revMax < s.revs.length + segs.countP (s.opensRev h v) then
          .hold .revokeRoom
        else if !s.grantRoom v segs then .hold .grantRoom
        else
          match (picks.drop k).find? fun j =>
            Config.orderMax < (s.shelf j).orders.length + (picks.drop k).count j with
          | some j => .hold (.orderRoom j)
          | none => .go (picks, cursor)

/-- Steps 2 to 7 of WRITE-MAP (R56). -/
def State.writeVerdict (s : State) (h : Head) (v lba n : Nat) (own : Option Nat) : Verdict (List ShelfNo × ShelfNo) :=
  match (s.volume v).state.writeGate with
  | some st => .refuse st
  | none =>
      if own.isNone && !inRange lba n (s.volume v).size then .refuse .range
      else if (segments lba n).any fun g => s.trimming v g.ext then .refuse .trimming
      else
        match s.keyHold h v (segments lba n) own with
        | some r => .hold r
        | none => s.admission h v (segments lba n)

/-! ### WRITE-MAP: commit -/

/-- The segments of the reply record, as the commit fixes them (R64). A WRITE grant is given for a fresh segment and for
an unshared one on an ONLINE shelf (R62). -/
def State.replySegs (s : State) (v : Nat) (segs : List Seg) : List ReplySeg :=
  segs.map fun g =>
    let kind := s.segKind v g.ext
    let granted := match kind with
      | .fresh => true
      | .unshared => s.oldShelfOnline v g
      | .shared => false
    ⟨kind, g.ext, g.offset, g.length, granted⟩

/-- The map changes of a commit, fresh segments first, then COW starts, then the cursor, if a pick was made (R45, R104).
`id` is the reply record that the COWs serve. -/
def State.commitMap (s : State) (h : Head) (t : Tag) (v : Nat) (segs : List Seg) (picks : List ShelfNo)
    (cursor : ShelfNo) (id : Nat) : State :=
  let fresh := s.segsOf v segs .fresh
  let shared := s.segsOf v segs .shared
  let s1 := (fresh.zip picks).foldl (fun s p => s.commitFresh v p.1.ext p.2) s
  let s2 := (shared.zip (picks.drop fresh.length)).foldl
    (fun s p => s.startCow v p.1.ext p.2 h t id (segs.idxOf p.1)) s1
  if picks.isEmpty then s2 else s2.updVolume v fun r => { r with cursor := cursor }

/-- The grants and the revocation of one committed segment (R62, R63, R104 steps 5 and 6). -/
def State.commitGrant (s : State) (v : Nat) (h : Head) (id : Nat) (g : ReplySeg) : State :=
  let others := s.othersOf v g.ext h
  match g.kind with
  | .fresh => (s.setHolder v g.ext h .write).openRev v g.ext .alloc others (.reply id)
  | .unshared => if g.granted then s.setHolder v g.ext h .write else s.touchHolder v g.ext h
  | .shared =>
      match s.entry v g.ext with
      | .pending _ _ n => (s.touchHolder v g.ext h).openRev v g.ext .cow others (.cow n)
      | .unmapped | .mapped _ _ => s.touchHolder v g.ext h

/-- The waits of a commit: ALLOC revocations opened and COWs started (R64). -/
def State.waitsOf (s : State) (h : Head) (v : Nat) (segs : List Seg) : Nat :=
  segs.countP fun g =>
    match s.segKind v g.ext with
    | .fresh => !(s.othersOf v g.ext h).isEmpty
    | .unshared => false
    | .shared => true

/-- The commit of a WRITE-MAP (R45, R62 to R64): map and counts, reply record, grants and revocations, pool conditions,
mark test and tenant-limit test. With no wait the reply goes out at the commit. Where two segments each open a revocation,
segment 0's record is opened first and its REVOKE notices leave first, whatever the kinds; and the REVOKE notices leave
before the VOLUME notices of the two tests (DESIGN CHOICE, log entry 34). -/
def State.commit (s : State) (h : Head) (t : Tag) (v : Nat) (segs : List Seg) (picks : List ShelfNo)
    (cursor : ShelfNo) : State :=
  let rsegs := s.replySegs v segs
  let waits := s.waitsOf h v segs
  let k := (s.segsOf v segs .fresh).length
  let tn := (s.volume v).tenant
  let before := (s.tenant tn).sum
  let rec_ : ReplyRec := ⟨s.replySeq, ⟨h, t, false, false⟩, v, rsegs, waits, false⟩
  let s1 := s.commitMap h t v segs picks cursor s.replySeq
  let s2 := if waits = 0 then s1 else { s1 with replies := s1.replies ++ [rec_], replySeq := s1.replySeq + 1 }
  let s3 := rsegs.foldl (fun s g => s.commitGrant v h rec_.id g) s2
  let s4 := picks.foldl State.evalCond s3
  let s5 := if k = 0 then s4 else (s4.markTest v).tenantLimitTest tn before
  if waits = 0 then s5.sendWriteReply rec_ else s5

/-- A WRITE-MAP from step 2 on (R56, R74). A COW's shelf has an order to dispatch. -/
def Ev.writeMap (ev : Ev) (h : Head) (t : Tag) (v lba n : Nat) (own : Option Nat) : Ev :=
  match ev.st.writeVerdict h v lba n own with
  | .refuse st => (ev.leave own).map fun s => s.refuse h t st
  | .hold r => ev.hold h t (.writeMap v lba n) r own
  | .go (picks, cursor) =>
      let k := (ev.st.segsOf v (segments lba n) .fresh).length
      (picks.drop k).foldl Ev.runShelf
        ((ev.leave own).map fun s => s.commit h t v (segments lba n) picks cursor)

/-! ### VOL-FREEZE -/

/-- VOL-FREEZE from step 2 of R134 (R139). `go true` accepts; `go false` is an OK at once. -/
def State.freezeVerdict (s : State) (v : Nat) : Verdict Bool :=
  match (s.volume v).state with
  | .active => if s.passFree then .go true else .hold .passRoom
  | .frozen => if s.freezePassOn v then .refuse .volumeBusy else .go false
  | .source | .building => .refuse .sourceBusy
  | .deleting => .refuse .gone
  | .free => .refuse .noVolume

/-- VOL-FREEZE (R139, R95): the state, the pass record, the to-do set, in that order; then the pass acts. -/
def Ev.volFreeze (ev : Ev) (h : Head) (t : Tag) (v : Nat) (own : Option Nat) : Ev :=
  match ev.st.freezeVerdict v with
  | .refuse st => (ev.leave own).map fun s => s.refuse h t st
  | .hold r => ev.hold h t (.volFreeze v) r own
  | .go false => (ev.leave own).map fun s => s.replyWords h t []
  | .go true =>
      let ev1 := (ev.leave own).map fun s => s.updVolume v fun r => { r with state := .frozen }
      let seq := ev1.st.passSeq
      (ev1.map fun s => s.takePass v (.freeze ⟨h, t, false, false⟩)).passExamine seq

/-! ### VOL-CLONE -/

/-- A FREE volume number is set aside for a held VOL-CLONE other than the request's own (R135, R146 check 3). -/
def State.setAside (s : State) (v : Nat) (own : Option Nat) : Bool :=
  s.held.any fun x =>
    match x.req with
    | .volClone u _ => u = v && (own ≠ some x.seq)
    | .readMap _ _ _ | .writeMap _ _ _ | .volFreeze _ => false

/-- The state of a parent for VOL-CLONE (check 4 of R146): none when it passes. -/
def VolState.parentGate : VolState → Option Status
  | .active | .frozen => none
  | .free | .building => some .noVolume
  | .deleting => some .gone
  | .source => some .sourceBusy

/-- Checks 2 to 10 of VOL-CLONE (R146). -/
def State.cloneVerdict (s : State) (v parent : Nat) (own : Option Nat) : Verdict Unit :=
  let p := s.volume parent
  let t := s.tenant p.tenant
  if (s.volume v).state ≠ .free then .refuse .exists_
  else if s.setAside v own then .refuse .volumeBusy
  else
    match p.state.parentGate with
    | some st => .refuse st
    | none =>
        if s.jobNames parent then .refuse .volumeBusy
        else if Config.familyMax ≤ s.family p.family then .refuse .familyFull
        else if s.poolFree - s.reserved < p.pageCount then .refuse .noPage
        else if t.limit < t.charged + t.promised + p.allocated then .refuse .tenantLimit
        else if Config.jobMax ≤ s.jobs.length then .refuse .jobFull
        else if s.passFree then .go ()
        else .hold .passRoom

/-- The prior state a parent remembers (R133, R147). -/
def VolState.asPrior : VolState → PriorState
  | .frozen => .frozen
  | .active | .free | .building | .source | .deleting => .active

/-- The record of a new clone (R147 step 3). -/
def Volume.cloneRecord (p : Volume) : Volume :=
  { Volume.freeRecord with
    state := .building, tenant := p.tenant, family := p.family, size := p.size, quota := p.quota, mask := p.mask,
    mark := p.mark }

/-- The acceptance of a VOL-CLONE as one change (R147): parent, pass, new record, family and tenant, pages, job. -/
def State.acceptClone (s : State) (v parent : Nat) : State :=
  let p := s.volume parent
  let n := s.jobNumber
  let s1 := s.setVolume parent { p with state := .source, prior := some p.state.asPrior }
  let s2 := s1.takePass parent (.clone n)
  let s3 := s2.setVolume v p.cloneRecord
  let s4 := s3.setFamily p.family (s3.family p.family + 1)
  let s5 := s4.updTenant p.tenant fun t => { t with volumes := t.volumes + 1, promised := t.promised + p.allocated }
  let s6 := { s5 with reserved := s5.reserved + p.pageCount }
  s6.queueJob (.clone v parent) 0 0

/-- VOL-CLONE from check 2 of R146 on (R146, R147, R51). The tenant-limit test is made before the new pass acts, as
section 8.9 tells it, so a VOLUME notice leaves before the pass's REVOKE notices (DEDUCED, log entry 35). -/
def Ev.volClone (ev : Ev) (h : Head) (t : Tag) (v parent : Nat) (own : Option Nat) : Ev :=
  match ev.st.cloneVerdict v parent own with
  | .refuse st => (ev.leave own).map fun s => s.refuse h t st
  | .hold r => ev.hold h t (.volClone v parent) r own
  | .go _ =>
      let ev1 := ev.leave own
      let seq := ev1.st.passSeq
      let n := ev1.st.jobNumber
      let tn := (ev1.st.volume parent).tenant
      let before := (ev1.st.tenant tn).sum
      ((ev1.map fun s => (s.acceptClone v parent).tenantLimitTest tn before).passExamine seq).map fun s =>
        s.replyWords h t [n]

/-! ### Re-examination and the end of an event -/

/-- A released entry is re-examined (R74). -/
def Ev.reexamine (ev : Ev) (x : Held) : Ev :=
  let ev1 := { ev with taken := x.seq :: ev.taken }
  match x.req with
  | .readMap v lba n => ev1.readMap x.head x.tag v lba n (some x.seq)
  | .writeMap v lba n => ev1.writeMap x.head x.tag v lba n (some x.seq)
  | .volFreeze v => ev1.volFreeze x.head x.tag v (some x.seq)
  | .volClone v parent => ev1.volClone x.head x.tag v parent (some x.seq)

/-- The re-examination pass: the oldest released entry not yet taken in the event, again and again (R73, R74). -/
def Ev.heldPass (fuel : Nat) (ev : Ev) : Ev :=
  match fuel with
  | 0 => ev
  | fuel + 1 =>
      match ev.st.held.find? fun x => ev.rel.contains x.reason && !ev.taken.contains x.seq with
      | none => ev
      | some x => Ev.heldPass fuel (ev.reexamine x)

/-- A pass that waits for a record is handed a freed one (R86). -/
def Ev.hands (ev : Ev) (seq : Nat) : Bool :=
  match ev.st.passOf seq with
  | none => false
  | some p => p.waiting.isSome && ev.rel.contains .revokeRoom && ev.st.revFree

/-- A pass has cause to examine its set. One that stopped for want of a record has none until it is handed one, but for
the end of its volume's last COW (R97, R98). -/
def Ev.kicks (ev : Ev) (seq : Nat) : Bool :=
  match ev.st.passOf seq with
  | none => false
  | some p => ev.kickCow.contains seq || (p.waiting.isNone && ev.kick.contains seq)

/-- The turn of one pass in the hand-out of an event (R86, R97). -/
def Ev.passTurn (ev : Ev) (seq : Nat) : Ev :=
  if ev.hands seq then ev.passHanded seq else if ev.kicks seq then ev.passExamine seq else ev

/-- The turns of the passes, one after another, and for each whether it was handed a record, and the frames it sent. -/
def Ev.passTurns (ev : Ev) : List Nat → Ev × List (Bool × List Sent)
  | [] => (ev, [])
  | seq :: more =>
      let ev1 := ev.passTurn seq
      let r := ev1.passTurns more
      (r.1, (ev.hands seq, ev1.st.sent.drop ev.st.sent.length) :: r.2)

/-- Freed revocation records are handed out, and passes with cause to act examine their sets: the job's step first, then
passes in start order (R86, R97; log entry 21). Their frames leave as `Sent.inTurns` orders them. -/
def Ev.handOut (ev : Ev) : Ev :=
  let ev1 := if ev.rel.contains .revokeRoom then ev.jobOnRecord else ev
  let r := ev1.passTurns (ev1.st.passes.map Pass.seq)
  let n := ev.st.sent.length
  r.1.map fun s => { s with sent := s.sent.take n ++ Sent.inTurns (ev1.st.sent.drop n) r.2 }

/-- The re-examination pass of an event (R73, R74), and after it the scrub engines and arbiters, on the room that the
pass has left, until no shelf has cause to run (R120, R124). A dispatch made here releases ORDER-ROOM to entries that the
event has not taken: the pass goes on with them, and takes no entry a second time (R73; log entry 18). -/
def Ev.rounds (fuel : Nat) (ev : Ev) : Ev :=
  match fuel with
  | 0 => ev
  | fuel + 1 =>
      let ev1 := Ev.heldPass ev.st.held.length ev
      if ev1.run.isEmpty then ev1 else Ev.rounds fuel ev1.serveShelves

/-- Each round but the first follows a dispatch, and eight shelves have 256 order tags between them. -/
@[simp] abbrev roundFuel : Nat := 300

/-- The end of an event for reclaim, when `n` frames and orders had left the part before the event: its REVOKE notices
leave before the first reply of the event, as R174 has it where no rule orders a reply and a notice. -/
def State.reclaimAt (s : State) (n : Nat) : State :=
  let made := s.sent.drop n
  let u := State.reclaimEnd { s with sent := s.sent.take n ++ made.takeWhile fun x => !x.isReply }
  { u with sent := u.sent ++ made.dropWhile fun x => !x.isReply }

/-- An event ends: records are handed out, the fixed dispatches made, held requests re-examined, the other shelves
served, and reclaim takes what is left (R86, R89, R120, R124, R82). In an event that frees a revocation record, R86 places
reclaim behind all these; in any other, no rule orders its notices and the event's replies, and the notices leave first
(R174; log entry 7). -/
def Ev.finish (ev : Ev) : State :=
  let ev1 := Ev.rounds roundFuel ev.handOut.serveFixed
  if ev.rel.contains .revokeRoom then ev1.st.reclaimEnd else ev1.st.reclaimAt ev.lead

end Sys2Proof.Machine
end

