-- ==== Sys2Proof/Machine/Links.lean ====
section
/-! DEFINITION. Head link events and the requests of the Head Link Unit (spec/10). -/

namespace Sys2Proof.Machine

/-- A DARK link with signal goes UP, with a PART notice to its head (R165, R173). -/
def State.linkUp (s : State) (h : Head) : State :=
  if (s.head h).link = .dark then
    (s.updHead h fun r => { r with link := .up }).notify h ⟨.part, s.startCause.code, h.val, 3, 0, 0⟩
  else s

/-- Loss of signal (R165, R167). -/
def State.linkLoss (s : State) (h : Head) : State :=
  if (s.head h).link = .dark then s else ((Ev.start s).loseHead h).finish

/-- A frame that fails the check of R168 is discarded and counted; on a DARK link it is not counted (R166). -/
def State.discardFrame (s : State) (h : Head) (bytes : List Byte) : State :=
  if (s.head h).link ≠ .dark ∧ frameBad bytes = true then
    s.updHead h fun r => { r with errors := min 65535 (r.errors + 1) }
  else s

/-- REJOIN (R170). -/
def State.rejoin (s : State) (h : Head) (t : Tag) : State :=
  (s.updHead h fun r => { r with link := .up, fence := none }).replyWords h t []

/-- The result words of PART-READ (R171). -/
def State.partWords (s : State) (h : Head) : List Nat :=
  [6420, 3, h.val, s.startCause.code]
    ++ (allHeads.flatMap fun k => [(s.head k).link.code, (s.head k).errors])
    ++ [s.poolFree, s.reserved, s.grants.length, flagWord s.reclaim, s.revs.length, s.cows.length, s.passes.length,
        s.held.length, s.jobs.length]

/-- LINK_UP (R165). -/
def execLinkUp (h : Head) (s : State) : Host.Outcome State Fault Refusal := .next (s.linkUp h)

/-- LINK_LOSS (R167). -/
def execLinkLoss (h : Head) (s : State) : Host.Outcome State Fault Refusal := .next (s.linkLoss h)

/-- FRAME_DISCARD (R168). -/
def execFrameDiscard (h : Head) (bytes : List Byte) (s : State) : Host.Outcome State Fault Refusal :=
  .next (s.discardFrame h bytes)

/-- BAD_KIND (R169 step 2, which stands before the fence of step 3). A code that names a kind is no BAD_KIND. -/
def execBadKind (h : Head) (t : Tag) (kind : Nat) (s : State) : Host.Outcome State Fault Refusal :=
  .next (if knownKind kind then s else s.take h t true fun s => s.refuse h t .badKind)

/-- REJOIN (R170). -/
def execRejoin (h : Head) (t : Tag) (s : State) : Host.Outcome State Fault Refusal :=
  .next (s.take h t true fun s => s.rejoin h t)

/-- PART-READ (R171). -/
def execPartRead (h : Head) (t : Tag) (s : State) : Host.Outcome State Fault Refusal :=
  .next (s.take h t true fun s => s.replyWords h t (s.partWords h))

end Sys2Proof.Machine
end

