-- ==== Sys2Proof/Machine/Notices.lean ====
section
/-! DEFINITION. The requests of the Notice Unit (R175, R176, R178). -/

namespace Sys2Proof.Machine

/-- The masks that a class mask sets: bits 3–6 (R175). -/
def masksOf (m : BitVec 16) : PerClass Bool := ⟨m.getLsbD 3, m.getLsbD 4, m.getLsbD 5, m.getLsbD 6⟩

/-- The applied mask as a result word (R175). -/
def maskWordOf (p : PerClass Bool) : Nat :=
  8 * flagWord p.shelf + 16 * flagWord p.job + 32 * flagWord p.volume + 64 * flagWord p.part

/-- The maskable classes in the priority order of R176. -/
def maskableClasses : List NoticeClass := [.shelf, .job, .volume, .part]

/-- A class that is unmasked and has a pending record sends it, and the record is cleared (R175). -/
def State.sendPending (s : State) (h : Head) (c : NoticeClass) : State :=
  match (s.head h).masks.at c, (s.head h).pending.at c with
  | some false, some (some n) => (s.updHead h fun r => { r with pending := r.pending.put c none }).emit (.notice h n)
  | _, _ => s

/-- NOTE-MASK (R175). -/
def State.noteMask (s : State) (h : Head) (t : Tag) (m : BitVec 16) : State :=
  let s1 := s.updHead h fun r => { r with masks := masksOf m }
  (maskableClasses.foldl (fun s c => s.sendPending h c) s1).replyWords h t [maskWordOf (masksOf m)]

/-- The pending record of the highest priority, behind the FENCE record (R176). -/
def HeadRec.firstPending (r : HeadRec) : Option Notice :=
  maskableClasses.findSome? fun c => (r.pending.at c).join

/-- The first record that stands (R176). -/
def HeadRec.standing (r : HeadRec) : Option Notice := r.fence.or r.firstPending

/-- The six result words of a record, or of none (R176). -/
def noticeWords : Option Notice → List Nat
  | none => [0, 0, 0, 0, 0, 0]
  | some n => [n.cls.code, n.detail, n.subject, n.valueA, n.valueB, n.missed]

/-- The class of that pending record (R176). -/
def HeadRec.firstClass (r : HeadRec) : Option NoticeClass :=
  maskableClasses.find? fun c => ((r.pending.at c).join).isSome

/-- A head after NOTE-TAKE: the record returned is removed, unless it is the FENCE record (R176). -/
def HeadRec.taken (r : HeadRec) : HeadRec :=
  if r.fence.isSome then r
  else
    match r.firstClass with
    | none => r
    | some c => { r with pending := r.pending.put c none }

/-- The five result words of the newest fault record, or of none (R178). -/
def faultWords : Option FaultRec → List Nat
  | none => [0, 0, 0, 0, 0]
  | some f => [1, f.shelf.val, f.slot, 2, f.cause.code]

/-- A head after FAULT-POP (R178). -/
def HeadRec.popped (r : HeadRec) : HeadRec :=
  if r.faultFirst.isSome then { r with faultFirst := r.faultSecond, faultSecond := none } else r

/-- NOTE-MASK (R175). -/
def execNoteMask (h : Head) (t : Tag) (classMask : BitVec 16) (s : State) : Host.Outcome State Fault Refusal :=
  .next (s.take h t true fun s => s.noteMask h t classMask)

/-- NOTE-PEEK (R176). -/
def execNotePeek (h : Head) (t : Tag) (s : State) : Host.Outcome State Fault Refusal :=
  .next (s.take h t true fun s => s.replyWords h t (noticeWords (s.head h).standing))

/-- NOTE-TAKE (R176). -/
def execNoteTake (h : Head) (t : Tag) (s : State) : Host.Outcome State Fault Refusal :=
  .next (s.take h t true fun s =>
    (s.updHead h HeadRec.taken).replyWords h t (noticeWords (s.head h).standing))

/-- FAULT-POP (R178). -/
def execFaultPop (h : Head) (t : Tag) (s : State) : Host.Outcome State Fault Refusal :=
  .next (s.take h t true fun s => (s.updHead h HeadRec.popped).replyWords h t (faultWords (s.head h).faultFirst))

end Sys2Proof.Machine
end

