-- ==== Sys2Proof/Machine/Start.lean ====
section
/-! DEFINITION. Power-on and the reset line: empty volatile state, then start-up recovery (R13, R37, R117, R132, R163,
R164) and the verification that the shelf links found UP begin (R37). -/

namespace Sys2Proof.Machine

/-- A PENDING entry returns to MAPPED at its old location (R117). -/
def MapEntry.recovered : MapEntry → MapEntry
  | .pending k c _ => .mapped k c
  | .mapped k c => .mapped k c
  | .unmapped => .unmapped

/-- The map pages of a volume after the recovery of its entries (R117). -/
def Volume.recovered (r : Volume) : Volume :=
  { r with dir := r.dir.map fun (d : Nat × Page) => (d.1, { d.2 with entries := d.2.entries.map fun (q : Nat × MapEntry) => (q.1, q.2.recovered) }) }

/-- The state a SOURCE volume returns to (R133). -/
def priorState : Option PriorState → VolState
  | some .frozen => .frozen
  | some .active | none => .active

/-- The parent of an ended or converted CLONE job returns to its prior state, which is cleared (R159, R164). -/
def Volume.released (r : Volume) : Volume := { r with state := priorState r.prior, prior := none }

/-- The conversion of one CLONE job at the volumes, the tenant and the page pool (R164 steps 1 to 4). -/
def State.convertClone (s : State) (v parent : Nat) : State :=
  let c := s.volume v
  let p := s.volume parent
  let s1 := s.setVolume v { c with state := .deleting }
  let s2 := s1.updVolume parent Volume.released
  let s3 := s2.updTenant c.tenant fun t => { t with promised := t.promised - (p.allocated - c.allocated) }
  { s3 with reserved := s3.reserved - (p.pageCount - c.pageCount) }

/-- The record of a converted CLONE job: a DELETE of the clone (R164 step 5). -/
def State.convertJob (s : State) (j : Job) : Job :=
  match j.work with
  | .clone v _ => { j with work := .delete v, cursor := 0, endIdx := (s.volume v).size, processed := 0 }
  | .delete _ | .trim _ _ _ => j

/-- Every CLONE job, in any state, becomes a DELETE of its clone (R164). -/
def State.convertClones (s : State) : State :=
  let s1 := s.jobs.foldl
    (fun s j =>
      match j.work with
      | .clone v parent => s.convertClone v parent
      | .delete _ | .trim _ _ _ => s) s
  { s1 with jobs := s1.jobs.map s1.convertJob }

/-- The slots of a shelf in a PET state, ascending. -/
def Shelf.slotsIn (sh : Shelf) (st : SlotState) : List Nat :=
  (List.range sh.pet.length).filter fun c => (sh.pet[c]?).map PetEntry.state = some st

/-- SCRUBBING slots go to the head of the scrub queue and COPY-TARGET slots to its tail, each group ascending
(R117, R132). -/
def Shelf.recoverSlots (sh : Shelf) : Shelf :=
  { sh with
    pet := sh.pet.map fun p => if p.state = .scrubbing ∨ p.state = .copyTarget then ⟨.scrubWait, 0⟩ else p
    scrubQueue := sh.slotsIn .scrubbing ++ sh.scrubQueue ++ sh.slotsIn .copyTarget }

/-- The state of a shelf after its recovery step (R37). -/
def Shelf.recoverState (sh : Shelf) : Shelf :=
  match sh.state with
  | .online | .verifying => { sh with state := .offline }
  | .joining => sh.absentValues
  | .absent | .offline | .mismatch => sh

/-- The volatile values a Shelf Order Unit starts with (R20, R132), and the link as it is found. -/
def Shelf.started (sh : Shelf) (link : Bool) : Shelf :=
  { sh with
    linkUp := link, timeouts := 0, reverify := none, settle := none, stepTimer := none, level := sh.baseLevel,
    orders := [], inFlight := [], serial := 0, fgCount := 0, join := none }

/-- A shelf after start-up recovery. -/
def Shelf.recovered (sh : Shelf) (link : Bool) : Shelf := (sh.recoverSlots.recoverState).started link

/-- A start found the link of an OFFLINE or MISMATCH shelf UP: verification begins (R37, R24). -/
def Shelf.verifyFound (sh : Shelf) : Shelf :=
  if sh.linkUp ∧ (sh.state = .offline ∨ sh.state = .mismatch) then sh.beginVerify else sh

/-- Empty volatile state (R11, R101, R166, R179) and the start cause (R166). -/
def State.emptyVolatile (s : State) (cause : StartCause) : State :=
  { s with
    heads := Vector.replicate 4 HeadRec.initial, startCause := cause, pin := false, jobWait := .none, pause := none,
    grants := [], reclaim := false, revs := [], passes := [], cows := [], held := [], replies := [], heldSeq := 0,
    passSeq := 0, replySeq := 0 }

/-- Start-up recovery of the Map Store (R13). Bit s of `links` is the link of shelf s as it is found. -/
def State.recover (s : State) (links : BitVec 8) : State :=
  let s1 := { s with volumes := s.volumes.map fun (p : Nat × Volume) => (p.1, p.2.recovered) }
  let s2 := s1.convertClones
  { s2 with shelves := Vector.ofFn fun k => ((s2.shelf k).recovered (links.getLsbD k.val)).verifyFound }

/-- A start of the part (R13): volatile state empties, recovery runs, and the shelves under verification are served.
Their LABEL-READs leave in rising shelf number, which R37 does not give (DESIGN CHOICE, log entry 32). -/
def State.restart (s : State) (cause : StartCause) (links : BitVec 8) : State :=
  (allShelves.foldl Ev.runShelf (Ev.start ((s.emptyVolatile cause).recover links))).finish

/-- POWER_ON (R13). -/
def execPowerOn (links : BitVec 8) (s : State) : Host.Outcome State Fault Refusal := .next (s.restart .powerOn links)

/-- RESET_LINE (R13). -/
def execResetLine (links : BitVec 8) (s : State) : Host.Outcome State Fault Refusal := .next (s.restart .resetLine links)

end Sys2Proof.Machine
end

