-- ==== Sys2Proof/Machine/Sweep.lean ====
section
/-! DEFINITION. The steps of the Sweep Engine (R151, R158, R159) and the job requests (R160 to R162). -/

namespace Sys2Proof.Machine

/-- The work is a walk: DELETE or TRIM. -/
def JobWork.isWalk : JobWork → Bool
  | .delete _ | .trim _ _ _ => true
  | .clone _ _ => false

/-- The head job is RUNNING, walks, and its step waits for nothing (R151). -/
def State.walkReady (s : State) : Bool :=
  match s.headJob with
  | none => false
  | some j => decide (j.state = .running) && j.work.isWalk && decide (s.jobWait = .none)

/-- JOB_STEP (R151 to R157). -/
def execJobStep (s : State) : Host.Outcome State Fault Refusal :=
  .next (if s.walkReady then (Ev.start s).jobLook.finish else s)

/-! ### Clone copy steps -/

/-- An entry is MAPPED. -/
def MapEntry.isMapped : MapEntry → Bool
  | .mapped _ _ => true
  | .unmapped | .pending _ _ _ => false

/-- A MAPPED entry counts one more reference on its slot (R158). -/
def State.addRef (s : State) : MapEntry → State
  | .mapped k c => s.updShelf k fun sh => sh.setSlot c .inUse (sh.refs c + 1)
  | .unmapped | .pending _ _ _ => s

/-- The lowest present parent slot whose first index is at or above the cursor (R158). -/
def Volume.nextSlot (p : Volume) (cursor : Nat) : Option (Nat × Page) :=
  p.dir.find? fun q => cursor ≤ q.1 * Config.pageEntries

/-- A copy step of one parent page into the clone (R158, R55), with the mark test on the clone. -/
def State.copyPage (s : State) (j : Job) (v slot : Nat) (p : Page) : State :=
  let es := p.entries.filter fun q => q.2.isMapped
  let m := es.length
  let s1 := s.updVolume v fun r =>
    { r with
      dir := Table.insert r.dir slot ⟨s.nextPage, es⟩, pageCount := r.pageCount + 1, allocated := r.allocated + m }
  let s2 := { s1 with poolFree := s.poolFree - 1, reserved := s.reserved - 1, pageDraws := s.pageDraws + 1 }
  let s3 := es.foldl (fun s q => s.addRef q.2) s2
  let s4 := s3.updTenant (s3.volume v).tenant fun t =>
    { t with promised := t.promised - m, charged := t.charged + m }
  (s4.setHeadJob { j with cursor := (slot + 1) * Config.pageEntries, processed := j.processed + m }).markTest v

/-- The end of a CLONE job (R159). -/
def State.cloneEnd (s : State) (j : Job) (v parent : Nat) : State :=
  ((s.updVolume v fun r => { r with state := .active }).updVolume parent Volume.released).endJob j

/-- The end of a CLONE job, if no present parent slot is left for it (R159). -/
def State.cloneTest (s : State) (v parent : Nat) : State :=
  match s.headJob with
  | none => s
  | some j =>
      match (s.volume parent).nextSlot j.cursor with
      | none => s.cloneEnd j v parent
      | some _ => s

/-- The pass that a CLONE job waits for (R158). -/
def State.clonePass (s : State) (number : Nat) : Bool := s.passes.any fun p => p.cause = .clone number

/-- A step of the CLONE job at the head of the queue (R158, R159; log entry 16). -/
def State.cloneStep (s : State) (j : Job) (v parent : Nat) : State :=
  match (s.volume parent).nextSlot j.cursor with
  | none => s.cloneEnd j v parent
  | some (slot, p) => (s.copyPage j v slot p).cloneTest v parent

/-- CLONE_COPY_STEP (R158). -/
def execCloneCopyStep (s : State) : Host.Outcome State Fault Refusal :=
  .next (match s.headJob with
    | none => s
    | some j =>
        match j.work with
        | .clone v parent =>
            if j.state = .running ∧ s.clonePass j.number = false then s.cloneStep j v parent else s
        | .delete _ | .trim _ _ _ => s)

/-! ### Job requests -/

/-- JOB-PAUSE on the head job (R160). -/
def State.pauseHead (s : State) (h : Head) (t : Tag) (j : Job) : State :=
  match j.state with
  | .waiting | .paused => s.refuse h t .notRunning
  | .running =>
      if s.pause.isSome then s.refuse h t .volumeBusy
      else if s.jobWait = .none then (s.setHeadJob { j with state := .paused }).replyWords h t []
      else { s with pause := some ⟨h, t, false, false⟩ }

/-- JOB-PAUSE (R160). -/
def execJobPause (h : Head) (t : Tag) (s : State) : Host.Outcome State Fault Refusal :=
  .next (s.take h t false fun s =>
    match s.headJob with
    | none => s.refuse h t .notRunning
    | some j => s.pauseHead h t j)

/-- JOB-GO on the head job (R161). -/
def State.resumeHead (s : State) (h : Head) (t : Tag) (j : Job) : State :=
  if j.state = .paused then (s.setHeadJob { j with state := .running }).replyWords h t []
  else s.refuse h t .notPaused

/-- JOB-GO (R161). -/
def execJobGo (h : Head) (t : Tag) (s : State) : Host.Outcome State Fault Refusal :=
  .next (s.take h t false fun s =>
    match s.headJob with
    | none => s.refuse h t .notPaused
    | some j => s.resumeHead h t j)

/-- The nine words of a job (R162, R172). -/
def Job.words (j : Job) : List Nat :=
  let parent := match j.work with
    | .clone _ p => p
    | .delete _ | .trim _ _ _ => Config.absentWord
  let range := match j.work with
    | .trim _ first count => [first, count]
    | .delete _ | .clone _ _ => [Config.absentWord, Config.absentWord]
  [j.number, j.work.code, j.work.vol, parent] ++ range ++ [j.cursor, j.state.code, j.processed]

/-- The wait of the head job's step and its key, as result words (R162, R172). A PAUSED job's wait is NONE
(log entry 15). -/
def State.waitWords (s : State) (j : Job) : List Nat :=
  let noKey := [Config.absentWord, Config.absentWord]
  match s.jobWait with
  | .keyRecord v e => [1, v, e]
  | .revocation v e => [2, v, e]
  | .record v e => [3, v, e]
  | .cow v e => [4, v, e]
  | .endWait => 6 :: noKey
  | .none =>
      if j.state = .running ∧ j.work.isWalk = false ∧ s.clonePass j.number = true then 5 :: noKey else 0 :: noKey

/-- The result words of JOB-READ (R162, R172). -/
def State.jobWords (s : State) : List Nat :=
  match s.jobs with
  | [] => [s.nextJob]
  | j :: rest => s.nextJob :: j.words ++ flagWord s.pause.isSome :: s.waitWords j ++ rest.flatMap Job.words

/-- JOB-READ (R162). -/
def execJobRead (h : Head) (t : Tag) (s : State) : Host.Outcome State Fault Refusal :=
  .next (s.take h t false fun s => s.replyWords h t s.jobWords)

end Sys2Proof.Machine
end

