-- ==== Sys2Proof/Machine/Volumes.lean ====
section
/-! DEFINITION. The volume and tenant requests (spec/08, R52, R53): the order of checks of R134, then each request's
effect. -/

namespace Sys2Proof.Machine

/-! ### The order of checks -/

/-- A check that fails with a status. -/
def failIf (fails : Bool) (st : Status) : Option Status := if fails then some st else none

/-- The status of the first check that fails (R134). -/
def firstFail : List (Option Status) → Option Status
  | [] => none
  | some st :: _ => some st
  | none :: more => firstFail more

/-- A request is refused by its first failing check, with nothing changed, or served (R134). -/
def State.judge (s : State) (h : Head) (t : Tag) (checks : List (Option Status)) (serve : State) : State :=
  match firstFail checks with
  | some st => s.refuse h t st
  | none => serve

/-- A volume number outside 0–1023 is BAD-PARAM (R134 step 1). -/
def volParam (vol : Nat) : Option Status := failIf (!(vol < Config.volumes)) .badParam

/-- The gate of VOL-GROW, VOL-FREEZE, VOL-THAW, VOL-DROP and VOL-TRIM (R134). -/
def VolState.adminGate : VolState → Option Status
  | .active | .frozen => none
  | .source | .building => some .sourceBusy
  | .deleting => some .gone
  | .free => some .noVolume

/-- The gate of VOL-QUOTA (R134). -/
def VolState.quotaGate : VolState → Option Status
  | .active | .frozen | .source => none
  | .building => some .sourceBusy
  | .deleting => some .gone
  | .free => some .noVolume

/-- The gate of VOL-MARK and VOL-MASK (R134). -/
def VolState.settingGate : VolState → Option Status
  | .active | .frozen | .source | .building => none
  | .deleting => some .gone
  | .free => some .noVolume

/-- The gate of VOL-HOLD and VOL-UNHOLD (R134). -/
def VolState.holdGate : VolState → Option Status
  | .active | .frozen | .source | .building | .deleting => none
  | .free => some .noVolume

/-! ### Making and sizing -/

/-- The lowest-numbered free family record (R9). -/
def State.freeFamily (s : State) : Nat := (lowestFrom (fun n => s.family n = 0) Config.families 0).getD 0

/-- The record VOL-MAKE writes (R135). -/
def madeRecord (tenant family size quota : Nat) (mask : BitVec 8) (mark : Nat) : Volume :=
  { Volume.freeRecord with
    state := .active, tenant := tenant, family := family, size := size, quota := min quota size, mask := mask,
    mark := clampMark mark }

/-- The acceptance of VOL-MAKE (R135). -/
def State.makeVolume (s : State) (vol tenant size quota : Nat) (mask : BitVec 8) (mark : Nat) : State :=
  let f := s.freeFamily
  let s1 := (s.setFamily f 1).setVolume vol (madeRecord tenant f size quota mask mark)
  s1.updTenant tenant fun t => { t with volumes := t.volumes + 1 }

/-- The parameters of VOL-MAKE are in range (R135). -/
def makeParamsOk (vol tenant size : Nat) (mask : BitVec 8) : Bool :=
  vol < Config.volumes && tenant < Config.tenants && 1 ≤ size && size ≤ Config.maxSize && mask ≠ 0

/-- VOL-MAKE (R135). -/
def execVolMake (h : Head) (t : Tag) (vol tenant size quota : Nat) (mask : BitVec 8) (mark : Nat) (s : State) :
    Host.Outcome State Fault Refusal :=
  .next (s.take h t false fun s =>
    s.judge h t
      [failIf (!makeParamsOk vol tenant size mask) .badParam, failIf ((s.volume vol).state ≠ .free) .exists_,
        failIf (s.setAside vol none) .volumeBusy]
      ((s.makeVolume vol tenant size quota mask mark).replyWords h t [min quota size, clampMark mark, s.freeFamily]))

/-- VOL-GROW (R136). A size not above V is a parameter outside its range (log entry 12). -/
def execVolGrow (h : Head) (t : Tag) (vol size : Nat) (s : State) : Host.Outcome State Fault Refusal :=
  .next (s.take h t false fun s =>
    s.judge h t
      [volParam vol, failIf (size ≤ (s.volume vol).size || Config.maxSize < size) .badParam,
        (s.volume vol).state.adminGate]
      ((s.updVolume vol fun r => { r with size := size }).replyWords h t [size]))

/-- The quota VOL-QUOTA applies (R137). -/
def Volume.appliedQuota (r : Volume) (quota : Nat) : Nat := clampQuota r.allocated r.size quota

/-- VOL-QUOTA (R137). -/
def execVolQuota (h : Head) (t : Tag) (vol quota : Nat) (s : State) : Host.Outcome State Fault Refusal :=
  .next (s.take h t false fun s =>
    s.judge h t [volParam vol, (s.volume vol).state.quotaGate]
      ((s.updVolume vol fun r => ({ r with quota := r.appliedQuota quota }).markSilent).replyWords h t
        [(s.volume vol).appliedQuota quota]))

/-- VOL-MARK (R138). -/
def execVolMark (h : Head) (t : Tag) (vol mark : Nat) (s : State) : Host.Outcome State Fault Refusal :=
  .next (s.take h t false fun s =>
    s.judge h t [volParam vol, (s.volume vol).state.settingGate]
      ((s.updVolume vol fun r => ({ r with mark := clampMark mark }).markSilent).replyWords h t [clampMark mark]))

/-- VOL-MASK (R138). -/
def execVolMask (h : Head) (t : Tag) (vol : Nat) (mask : BitVec 8) (s : State) : Host.Outcome State Fault Refusal :=
  .next (s.take h t false fun s =>
    s.judge h t [volParam vol, failIf (mask = 0) .badParam, (s.volume vol).state.settingGate]
      ((s.updVolume vol fun r => { r with mask := mask }).replyWords h t []))

/-! ### Freezing and thawing -/

/-- VOL-FREEZE (R139). -/
def execVolFreeze (h : Head) (t : Tag) (vol : Nat) (s : State) : Host.Outcome State Fault Refusal :=
  .next (s.take h t false fun s =>
    s.judge h t [volParam vol] ((Ev.start s).volFreeze h t vol none).finish)

/-- A FROZEN volume becomes ACTIVE; an ACTIVE one is left as it is (R140). -/
def State.thaw (s : State) (vol : Nat) : State :=
  if (s.volume vol).state = .frozen then s.updVolume vol fun r => { r with state := .active } else s

/-- VOL-THAW (R140). -/
def execVolThaw (h : Head) (t : Tag) (vol : Nat) (s : State) : Host.Outcome State Fault Refusal :=
  .next (s.take h t false fun s =>
    s.judge h t
      [volParam vol, (s.volume vol).state.adminGate,
        failIf ((s.volume vol).state = .frozen && s.freezePassOn vol) .volumeBusy]
      ((s.thaw vol).replyWords h t []))

/-! ### Holds and the pin -/

/-- The hold flag of a volume written (R141). -/
def State.setHold (s : State) (vol : Nat) (flag : Bool) : State := s.updVolume vol fun r => { r with hold := flag }

/-- The volumes not FREE whose hold flag differs from `flag` (R141). -/
def State.holdDiffers (s : State) (flag : Bool) : Nat :=
  s.volumes.countP fun p => p.2.state ≠ .free && p.2.hold ≠ flag

/-- The hold flag of every volume not FREE written (R141). -/
def State.setHoldAll (s : State) (flag : Bool) : State :=
  { s with volumes := s.volumes.map fun (p : Nat × Volume) => if p.2.state = .free then p else (p.1, { p.2 with hold := flag }) }

/-- VOL-HOLD (R141). -/
def execVolHold (h : Head) (t : Tag) (vol : Nat) (s : State) : Host.Outcome State Fault Refusal :=
  .next (s.take h t false fun s =>
    s.judge h t [volParam vol, failIf s.pin .pinned, (s.volume vol).state.holdGate]
      ((s.setHold vol true).replyWords h t []))

/-- VOL-UNHOLD (R141). -/
def execVolUnhold (h : Head) (t : Tag) (vol : Nat) (s : State) : Host.Outcome State Fault Refusal :=
  .next (s.take h t false fun s =>
    s.judge h t [volParam vol, failIf s.pin .pinned, (s.volume vol).state.holdGate]
      ((s.setHold vol false).replyWords h t []))

/-- HOLD-ALL (R141). -/
def execHoldAll (h : Head) (t : Tag) (s : State) : Host.Outcome State Fault Refusal :=
  .next (s.take h t false fun s =>
    s.judge h t [failIf s.pin .pinned] ((s.setHoldAll true).replyWords h t [s.holdDiffers true]))

/-- UNHOLD-ALL (R141). -/
def execUnholdAll (h : Head) (t : Tag) (s : State) : Host.Outcome State Fault Refusal :=
  .next (s.take h t false fun s =>
    s.judge h t [failIf s.pin .pinned] ((s.setHoldAll false).replyWords h t [s.holdDiffers false]))

/-- HOLD-PIN (R142). -/
def execHoldPin (h : Head) (t : Tag) (s : State) : Host.Outcome State Fault Refusal :=
  .next (s.take h t false fun s => { s with pin := true }.replyWords h t [])

/-! ### Requests that queue a job -/

/-- The three checks that VOL-DROP and VOL-TRIM share: hold flag, a job that names the volume, a full queue
(R144, R145). -/
def State.jobChecks (s : State) (vol : Nat) : List (Option Status) :=
  [failIf (s.volume vol).hold .onHold, failIf (s.jobNames vol) .volumeBusy,
    failIf (Config.jobMax ≤ s.jobs.length) .jobFull]

/-- The acceptance of VOL-DROP (R144, R78). -/
def State.dropVolume (s : State) (vol : Nat) : State :=
  let s1 := (s.updVolume vol fun r => { r with state := .deleting }).queueJob (.delete vol) 0 (s.volume vol).size
  ((Ev.start s1).leaveHeldIf (fun x => x.req.volume = vol) (some .gone)).finish

/-- VOL-DROP (R144). -/
def execVolDrop (h : Head) (t : Tag) (vol : Nat) (s : State) : Host.Outcome State Fault Refusal :=
  .next (s.take h t false fun s =>
    s.judge h t ([volParam vol, (s.volume vol).state.adminGate] ++ s.jobChecks vol)
      ((s.dropVolume vol).replyWords h t [s.jobNumber]))

/-- VOL-TRIM (R145). -/
def execVolTrim (h : Head) (t : Tag) (vol first count : Nat) (s : State) : Host.Outcome State Fault Refusal :=
  .next (s.take h t false fun s =>
    s.judge h t
      ([volParam vol, failIf (Config.maxExtent < first || count = 0 || Config.maxSize < count) .badParam,
          (s.volume vol).state.adminGate, failIf ((s.volume vol).size < first + count) .range] ++ s.jobChecks vol)
      ((s.queueJob (.trim vol first count) first (first + count)).replyWords h t [s.jobNumber]))

/-- VOL-CLONE (R146, R147). -/
def execVolClone (h : Head) (t : Tag) (vol parent : Nat) (s : State) : Host.Outcome State Fault Refusal :=
  .next (s.take h t false fun s =>
    s.judge h t [volParam vol, volParam parent] ((Ev.start s).volClone h t vol parent none).finish)

/-! ### Reading -/

/-- The result words of VOL-READ (R148, R172). -/
def State.volumeWords (s : State) (vol : Nat) : List Nat :=
  let r := s.volume vol
  [r.state.code, priorCode r.prior, r.tenant, r.family, if r.state = .free then 0 else s.family r.family, r.size,
    r.quota, r.allocated, maskWord r.mask, r.mark, flagWord r.crossed, flagWord r.hold, r.cursor.val, r.pageCount]

/-- VOL-READ (R148). -/
def execVolRead (h : Head) (t : Tag) (vol : Nat) (s : State) : Host.Outcome State Fault Refusal :=
  .next (s.take h t false fun s => s.judge h t [volParam vol] (s.replyWords h t (s.volumeWords vol)))

/-! ### Tenants -/

/-- A tenant number outside 0–255 is BAD-PARAM (R52, R53). -/
def tenantParam (tenant : Nat) : Option Status := failIf (!(tenant < Config.tenants)) .badParam

/-- The limit TENANT-SET applies (R52). -/
def Tenant.appliedLimit (x : Tenant) (limit : Nat) : Nat := max limit x.sum

/-- The result words of TENANT-READ (R53). -/
def Tenant.words (x : Tenant) : List Nat :=
  [x.limit, x.charged, x.promised, x.volumes, x.limit - x.charged - x.promised]

/-- TENANT-SET (R52). -/
def execTenantSet (h : Head) (t : Tag) (tenant limit : Nat) (s : State) : Host.Outcome State Fault Refusal :=
  .next (s.take h t false fun s =>
    s.judge h t [tenantParam tenant]
      ((s.updTenant tenant fun x => { x with limit := x.appliedLimit limit }).replyWords h t
        [(s.tenant tenant).appliedLimit limit]))

/-- TENANT-READ (R53). -/
def execTenantRead (h : Head) (t : Tag) (tenant : Nat) (s : State) : Host.Outcome State Fault Refusal :=
  .next (s.take h t false fun s =>
    s.judge h t [tenantParam tenant] (s.replyWords h t (s.tenant tenant).words))

end Sys2Proof.Machine
end

