-- ==== Sys2Proof/Machine/Shelves.lean ====
section
/-! DEFINITION. The shelf requests (R21, R28 to R30), the loss of a shelf (R23, R27, R123), the shelf links (R23, R24)
and the answers of a shelf (R119). -/

namespace Sys2Proof.Machine

/-! ### Requests -/

/-- The settings a shelf request asks for, clamped against a capacity (R21). -/
structure Settings where
  lowMark : Nat
  reserve : Nat
  baseLevel : Nat
deriving DecidableEq, Repr

/-- The clamps of R21, in its order. -/
def clampSettings (capacity lowMark reserve baseLevel : Nat) : Settings :=
  let m := clampLowMark capacity lowMark
  ⟨m, clampReserve m reserve, clampLevel baseLevel⟩

/-- The settings as the result words of SHELF-JOIN and SHELF-TUNE (R22, R28; log entry 14). -/
def Settings.words (x : Settings) : List Nat := [x.lowMark, x.reserve, x.baseLevel]

/-- The settings of a shelf as it stands. -/
def Shelf.settings (sh : Shelf) : Settings := ⟨sh.lowMark, sh.reserve, sh.baseLevel⟩

/-- A shelf request is served on the shelf it names; a number outside 0–7 is BAD-PARAM. -/
def State.onShelf (s : State) (h : Head) (t : Tag) (shelf : Nat) (serve : ShelfNo → State) : State :=
  match shelfOf shelf with
  | none => s.refuse h t .badParam
  | some k => serve k

/-- A shelf that accepts a SHELF-JOIN (R21): record, join and LABEL-WRITE. The level of a JOINING shelf is its base
(log entry 13). -/
def Shelf.joining (sh : Shelf) (who : Waiter) (capacity label : Nat) (x : Settings) (prezeroed : Bool) : Shelf :=
  { sh with
    state := .joining, capacity := capacity, label := label, lowMark := x.lowMark, reserve := x.reserve,
    baseLevel := x.baseLevel, cond := .normal, level := x.baseLevel, fgCount := 0,
    join := some ⟨who, prezeroed⟩ }.queueOrder (.labelWrite (capacity - 1) label)

/-- The capacity of a SHELF-JOIN is 16–65,536 (R21). -/
def capacityOk (capacity : Nat) : Bool := 16 ≤ capacity && capacity ≤ 65536

/-- SHELF-JOIN (R21). It is not answered at its acceptance. -/
def execShelfJoin (h : Head) (t : Tag) (shelf capacity label lowMark reserve baseLevel : Nat) (prezeroed : Bool)
    (s : State) : Host.Outcome State Fault Refusal :=
  .next (s.take h t false fun s => s.onShelf h t shelf fun k =>
    s.judge h t
      [failIf (!capacityOk capacity) .badParam, failIf ((s.shelf k).state ≠ .absent) .exists_,
        failIf (!(s.shelf k).linkUp) .shelfDown]
      ((((Ev.start s).map fun s => s.updShelf k fun sh =>
        sh.joining ⟨h, t, false, false⟩ capacity label (clampSettings capacity lowMark reserve baseLevel)
          prezeroed).runShelf k).finish))

/-- A shelf with new settings: a level below the new base is raised to it (R28). -/
def Shelf.tuned (sh : Shelf) (x : Settings) : Shelf :=
  { sh with
    lowMark := x.lowMark, reserve := x.reserve, baseLevel := x.baseLevel, level := max sh.level x.baseLevel }

/-- SHELF-TUNE on a shelf that has a PET (R28). A level that is raised runs the arbiter (R124). -/
def State.tuneShelf (s : State) (h : Head) (t : Tag) (k : ShelfNo) (x : Settings) : State :=
  let tune : State → State := fun s => ((s.updShelf k fun sh => sh.tuned x).evalCond k).replyWords h t x.words
  if (s.shelf k).level < x.baseLevel then (((Ev.start s).map tune).runShelf k).finish else tune s

/-- SHELF-TUNE (R28). -/
def execShelfTune (h : Head) (t : Tag) (shelf lowMark reserve baseLevel : Nat) (s : State) :
    Host.Outcome State Fault Refusal :=
  .next (s.take h t false fun s => s.onShelf h t shelf fun k =>
    s.judge h t
      [failIf ((s.shelf k).state = .absent) .noShelf, failIf ((s.shelf k).state = .joining) .shelfBusy]
      (s.tuneShelf h t k (clampSettings (s.shelf k).capacity lowMark reserve baseLevel)))

/-- A shelf that SHELF-PART finds busy (R29). -/
def Shelf.busy (sh : Shelf) : Bool :=
  decide (sh.state = .joining) || !sh.inFlight.isEmpty || !sh.orders.isEmpty
    || sh.pet.any fun p => p.state = .inUse || p.state = .copyTarget

/-- SHELF-PART (R29). -/
def execShelfPart (h : Head) (t : Tag) (shelf : Nat) (s : State) : Host.Outcome State Fault Refusal :=
  .next (s.take h t false fun s => s.onShelf h t shelf fun k =>
    s.judge h t
      [failIf ((s.shelf k).state = .absent) .noShelf, failIf (s.shelf k).busy .shelfBusy]
      ((s.updShelf k fun sh => { sh.absentValues with timeouts := 0 }).replyWords h t []))

/-- The result words of SHELF-READ (R30, R172). -/
def Shelf.words (sh : Shelf) : List Nat :=
  [sh.state.code, sh.capacity, sh.label, sh.lowMark, sh.reserve, sh.baseLevel, sh.cond.code, sh.retired, sh.level,
    flagWord sh.linkUp, sh.timeouts, flagWord sh.settle.isSome, sh.freeList.length, sh.scrubQueue.length]
    ++ [SlotState.free, .inUse, .scrubWait, .scrubbing, .copyTarget, .retired, .label].map sh.countState

/-- SHELF-READ (R30). -/
def execShelfRead (h : Head) (t : Tag) (shelf : Nat) (s : State) : Host.Outcome State Fault Refusal :=
  .next (s.take h t false fun s => s.onShelf h t shelf fun k => s.replyWords h t (s.shelf k).words)

/-! ### Losing a shelf -/

/-- The slot that an order's failure by timeout or LINK returns to the scrub queue (R123, R129, R109). -/
def Order.returned : Order → Option Nat
  | .zero c => some c
  | .copy _ _ d _ => some d
  | .labelRead _ | .labelWrite _ _ => none

/-- The COW record that owns an order (R118). -/
def Order.owner : Order → Option Nat
  | .copy _ _ _ n => some n
  | .zero _ | .labelRead _ | .labelWrite _ _ => none

/-- Every order of a shelf, those in flight first (log entry 17). -/
def Shelf.allOrders (sh : Shelf) : List Order := sh.inFlight.map InFlight.order ++ sh.orders

/-- A shelf without orders (R123). -/
def Shelf.noOrders (sh : Shelf) : Shelf := { sh with orders := [], inFlight := [], fgCount := 0 }

/-- Failing orders leave the order list, which is one release of ORDER-ROOM (R120, R123). -/
def Ev.listEmptied (ev : Ev) (k : ShelfNo) (sh : Shelf) : Ev :=
  if sh.orders.isEmpty then ev else ev.release (.orderRoom k)

/-- An ONLINE shelf is lost (R23, R27, R123): it is OFFLINE, its slots return as one group, its COWs take their
failures, and a SHELF notice is raised. `late` is the order whose timeout this was, if it was one; it fails before the
others (R27), whose frames no rule orders (R174; log entry 7). -/
def Ev.loseShelf (ev : Ev) (k : ShelfNo) (late : Option Order) : Ev :=
  let sh := ev.st.shelf k
  let slots := (late.toList ++ sh.allOrders).filterMap Order.returned
  let ev1 := (ev.map fun s => s.setShelf k (((sh.enterOffline s.now).noOrders).returnSlots slots)).listEmptied k sh
  let ev2 := match late.bind Order.owner with
    | none => ev1
    | some n => ev1.cowFailed n .timeout
  (ev2.apart (fun ev n => ev.cowFailed n .link) (sh.allOrders.filterMap Order.owner)).map fun s => s.shelfNotice k 2

/-- A join ends without DONE: the record returns to the ABSENT values and the SHELF-JOIN is answered (R22). -/
def Ev.failJoin (ev : Ev) (k : ShelfNo) (status : Status) : Ev :=
  let sh := ev.st.shelf k
  let ev1 := (ev.map fun s => s.setShelf k sh.absentValues.noOrders).listEmptied k sh
  match sh.join with
  | none => ev1
  | some j => ev1.map fun s => s.answer j.who status (.words [])

/-- A verification ends without DONE, or a MISMATCH shelf loses its link: OFFLINE with a SHELF notice
(R23, R25, R26). -/
def Ev.toOffline (ev : Ev) (k : ShelfNo) : Ev :=
  let sh := ev.st.shelf k
  ((ev.map fun s => s.setShelf k (sh.enterOffline s.now).noOrders).listEmptied k sh).map fun s => s.shelfNotice k 2

/-! ### Shelf links -/

/-- The effect of a lost shelf link by the shelf's state, the link state being recorded (R23). -/
def Ev.shelfLinkDown (ev : Ev) (k : ShelfNo) : Ev :=
  let ev1 := ev.map fun s => s.updShelf k fun sh => { sh with linkUp := false, reverify := none }
  match (ev.st.shelf k).state with
  | .absent | .offline => ev1
  | .joining => ev1.failJoin k .shelfDown
  | .verifying | .mismatch => ev1.toOffline k
  | .online => ev1.loseShelf k none

/-- The effect of a shelf link that comes UP (R24). -/
def Ev.shelfLinkUp (ev : Ev) (k : ShelfNo) : Ev :=
  let ev1 := ev.map fun s => s.updShelf k fun sh => { sh with linkUp := true }
  match (ev.st.shelf k).state with
  | .offline | .mismatch => (ev1.map fun s => s.updShelf k Shelf.beginVerify).runShelf k
  | .absent | .joining | .verifying | .online => ev1

/-- SHELF_LINK_DOWN (R23). -/
def execShelfLinkDown (k : ShelfNo) (s : State) : Host.Outcome State Fault Refusal :=
  .next ((Ev.start s).shelfLinkDown k).finish

/-- SHELF_LINK_UP (R24). A link that is UP already does not come UP (log entry 27). -/
def execShelfLinkUp (k : ShelfNo) (s : State) : Host.Outcome State Fault Refusal :=
  .next (if (s.shelf k).linkUp then s else ((Ev.start s).shelfLinkUp k).finish)

/-! ### Answers -/

/-- An answer of a shelf (R119). It ends the order in flight with its tag and serial, and goes to the order's owner;
then the scrub engine and the arbiter run. An answer that matches no order in flight changes nothing, and nor does one
whose order is not of the kind the event names (log entry 11). -/
def State.answerTo (s : State) (k : ShelfNo) (otag serial : Nat) (owner : Order → Option (Ev → Ev)) : State :=
  match (s.shelf k).matched otag serial with
  | none => s
  | some f =>
      match owner f.order with
      | none => s
      | some act => ((act ((Ev.start s).map fun s => s.updShelf k fun sh => sh.answered otag)).runShelf k).finish

/-- A zeroed slot becomes FREE at the tail of the free list (R128). -/
def Shelf.zeroed (sh : Shelf) (slot : Nat) : Shelf :=
  { (sh.setSlot slot .free 0) with freeList := sh.freeList ++ [slot] }

/-- A slot is retired (R34). -/
def Shelf.retire (sh : Shelf) (slot : Nat) : Shelf := { (sh.setSlot slot .retired 0) with retired := sh.retired + 1 }

/-- The owner of a ZERO takes DONE (R128). -/
def zeroDoneAct (k : ShelfNo) : Order → Option (Ev → Ev)
  | .zero c => some fun ev => ev.map fun s => (s.updShelf k fun sh => sh.zeroed c).evalCond k
  | .copy _ _ _ _ | .labelRead _ | .labelWrite _ _ => none

/-- The owner of a ZERO takes FAULT, of either cause (R129, R119). -/
def zeroFaultAct (k : ShelfNo) : Order → Option (Ev → Ev)
  | .zero c => some fun ev => ev.map fun s => s.updShelf k fun sh => sh.retire c
  | .copy _ _ _ _ | .labelRead _ | .labelWrite _ _ => none

/-- The owner of a COPY takes DONE (R105). -/
def copyDoneAct : Order → Option (Ev → Ev)
  | .copy _ _ _ n => some fun ev => ev.cowCopied n
  | .zero _ | .labelRead _ | .labelWrite _ _ => none

/-- The owner of a COPY takes FAULT: N is dealt with by the cause, and the attempt has failed (R109). -/
def copyFaultAct (k : ShelfNo) (cause : FaultCause) : Order → Option (Ev → Ev)
  | .copy _ _ d n =>
      match cause with
      | .media => some fun ev => (ev.map fun s => s.updShelf k fun sh => sh.retire d).cowFailed n .media
      | .source => some fun ev => (ev.map fun s => s.updShelf k fun sh => sh.returnSlots [d]).cowFailed n .source
  | .zero _ | .labelRead _ | .labelWrite _ _ => none

/-- The verification takes the label that was read (R26). -/
def labelReadDoneAct (k : ShelfNo) (label : Nat) : Order → Option (Ev → Ev)
  | .labelRead _ => some fun ev => ev.map fun s =>
      if (s.shelf k).label = label then
        ((s.updShelf k (Shelf.enterOnline s.now)).evalCond k).shelfNotice k 1
      else (s.updShelf k fun sh => { sh with state := .mismatch }).shelfNotice k 3
  | .zero _ | .copy _ _ _ _ | .labelWrite _ _ => none

/-- The verification takes a FAULT (R26). -/
def labelReadFaultAct (k : ShelfNo) : Order → Option (Ev → Ev)
  | .labelRead _ => some fun ev => ev.toOffline k
  | .zero _ | .copy _ _ _ _ | .labelWrite _ _ => none

/-- The PET, free list and scrub queue of a joined shelf (R22). -/
def Shelf.built (sh : Shelf) (prezeroed : Bool) : Shelf :=
  let slots := List.range (sh.capacity - 1)
  { sh with
    pet := List.replicate (sh.capacity - 1) ⟨if prezeroed then .free else .scrubWait, 0⟩ ++ [⟨.label, 0⟩]
    freeList := if prezeroed then slots else []
    scrubQueue := if prezeroed then [] else slots
    retired := 0 }

/-- A shelf whose join has succeeded (R22): PET, ONLINE, the level at its base, and the due condition at once. -/
def Shelf.joined (now : Nat) (sh : Shelf) (prezeroed : Bool) : Shelf :=
  let sh1 := (sh.built prezeroed).enterOnline now
  { sh1 with level := sh1.baseLevel, cond := sh1.due, settle := none, join := none }

/-- The join takes DONE (R22). -/
def Ev.joinDone (ev : Ev) (k : ShelfNo) : Ev :=
  let sh := ev.st.shelf k
  match sh.join with
  | none => ev
  | some j => ev.map fun s =>
      ((s.setShelf k (sh.joined s.now j.prezeroed)).shelfNotice k 1).answer j.who .ok (.words sh.settings.words)

/-- The owner of a LABEL-WRITE takes DONE (R22). -/
def labelWriteDoneAct (k : ShelfNo) : Order → Option (Ev → Ev)
  | .labelWrite _ _ => some fun ev => ev.joinDone k
  | .zero _ | .copy _ _ _ _ | .labelRead _ => none

/-- The owner of a LABEL-WRITE takes FAULT (R22). -/
def labelWriteFaultAct (k : ShelfNo) : Order → Option (Ev → Ev)
  | .labelWrite _ _ => some fun ev => ev.failJoin k .media
  | .zero _ | .copy _ _ _ _ | .labelRead _ => none

/-- ZERO_DONE (R128). -/
def execZeroDone (k : ShelfNo) (otag serial : Nat) (s : State) : Host.Outcome State Fault Refusal :=
  .next (s.answerTo k otag serial (zeroDoneAct k))

/-- ZERO_FAULT (R129). A SOURCE cause is taken as MEDIA (R119), and both retire the slot. -/
def execZeroFault (k : ShelfNo) (otag serial : Nat) (_cause : FaultCause) (s : State) :
    Host.Outcome State Fault Refusal :=
  .next (s.answerTo k otag serial (zeroFaultAct k))

/-- COPY_DONE (R105). -/
def execCopyDone (k : ShelfNo) (otag serial : Nat) (s : State) : Host.Outcome State Fault Refusal :=
  .next (s.answerTo k otag serial copyDoneAct)

/-- COPY_FAULT (R109). -/
def execCopyFault (k : ShelfNo) (otag serial : Nat) (cause : FaultCause) (s : State) :
    Host.Outcome State Fault Refusal :=
  .next (s.answerTo k otag serial (copyFaultAct k cause))

/-- LABEL_READ_DONE (R26). -/
def execLabelReadDone (k : ShelfNo) (otag serial label : Nat) (s : State) : Host.Outcome State Fault Refusal :=
  .next (s.answerTo k otag serial (labelReadDoneAct k label))

/-- LABEL_READ_FAULT (R26), of either cause (R119). -/
def execLabelReadFault (k : ShelfNo) (otag serial : Nat) (_cause : FaultCause) (s : State) :
    Host.Outcome State Fault Refusal :=
  .next (s.answerTo k otag serial (labelReadFaultAct k))

/-- LABEL_WRITE_DONE (R22). -/
def execLabelWriteDone (k : ShelfNo) (otag serial : Nat) (s : State) : Host.Outcome State Fault Refusal :=
  .next (s.answerTo k otag serial (labelWriteDoneAct k))

/-- LABEL_WRITE_FAULT (R22), of either cause (R119). -/
def execLabelWriteFault (k : ShelfNo) (otag serial : Nat) (_cause : FaultCause) (s : State) :
    Host.Outcome State Fault Refusal :=
  .next (s.answerTo k otag serial (labelWriteFaultAct k))

/-- LATE_ANSWER (R119): an answer that matches nothing, or whose frame check fails, is discarded and changes nothing. -/
def execLateAnswer (_k : ShelfNo) (_otag _serial : Nat) (_frameOk : Bool) (s : State) :
    Host.Outcome State Fault Refusal :=
  .next s

end Sys2Proof.Machine
end

