-- ==== Sys2Proof/Machine/Timers.lean ====
section
/-! DEFINITION. The expiries of the part's timers (R122, R25, R36, R130, R90). An expiry happens to a timer that runs;
the clock then stands at the timer's end, or later (log entry 2). -/

namespace Sys2Proof.Machine

/-- The time is not earlier than a deadline that has come. -/
def State.reach (s : State) (deadline : Nat) : State := { s with now := max s.now deadline }

/-- The order in flight under a tag (R121). -/
def Shelf.underTag (sh : Shelf) (otag : Nat) : Option InFlight := sh.inFlight.find? fun f => f.tag = otag

/-- A timed-out order goes to its owner (R122, R119), on a shelf that stays in its state by R27. -/
def Ev.timedOut (ev : Ev) (k : ShelfNo) : Order → Ev
  | .zero c => ev.map fun s => s.updShelf k fun sh => sh.returnSlots [c]
  | .copy _ _ d n => (ev.map fun s => s.updShelf k fun sh => sh.returnSlots [d]).cowFailed n .timeout
  | .labelRead _ => ev.toOffline k
  | .labelWrite _ _ => ev.failJoin k .shelfDown

/-- The end of an order by timeout (R122): tag, count, and then its owner, or the loss of the shelf at the third
(R27). -/
def Ev.orderTimeout (ev : Ev) (k : ShelfNo) (f : InFlight) : Ev :=
  let ev1 := ev.map fun s => s.updShelf k fun sh => (sh.endOrder f.tag).countTimeout
  if (ev1.st.shelf k).state = .online ∧ 3 ≤ (ev1.st.shelf k).timeouts then
    (ev1.map fun s => s.updShelf k fun sh => { sh with timeouts := 0 }).loseShelf k (some f.order)
  else (ev1.timedOut k f.order).runShelf k

/-- ORDER_TIMEOUT (R122). -/
def execOrderTimeout (k : ShelfNo) (otag : Nat) (s : State) : Host.Outcome State Fault Refusal :=
  .next (match (s.shelf k).underTag otag with
    | none => s
    | some f => ((Ev.start (s.reach f.deadline)).orderTimeout k f).finish)

/-- REVERIFY_EXPIRY (R25). -/
def execReverifyExpiry (k : ShelfNo) (s : State) : Host.Outcome State Fault Refusal :=
  .next (match (s.shelf k).reverify with
    | none => s
    | some d =>
        if (s.shelf k).state = .offline ∧ (s.shelf k).linkUp = true then
          (((Ev.start (s.reach d)).map fun s => s.updShelf k Shelf.beginVerify).runShelf k).finish
        else s)

/-- A shelf whose settle timer has expired: the condition takes its due value (R36). -/
def Shelf.settled (sh : Shelf) : Shelf := { sh with cond := sh.due, settle := none }

/-- SETTLE_EXPIRY (R36). -/
def execSettleExpiry (k : ShelfNo) (s : State) : Host.Outcome State Fault Refusal :=
  .next (match (s.shelf k).settle with
    | none => s
    | some d => (((s.reach d).updShelf k Shelf.settled).shelfNotice k 4).evalCond k)

/-- The scrub level after a step (R130). -/
def Shelf.steppedLevel (sh : Shelf) : Nat :=
  match sh.cond with
  | .low => if sh.level < 7 then sh.level + 1 else sh.level
  | .normal => if sh.baseLevel < sh.level then sh.level - 1 else sh.level

/-- A shelf after a step of its scrub level, with the timer started again (R130). -/
def Shelf.stepLevel (now : Nat) (sh : Shelf) : Shelf :=
  { sh with level := sh.steppedLevel, stepTimer := some (now + Config.stepTime) }

/-- SCRUB_STEP_EXPIRY (R130). A change of level runs the arbiter (R124). -/
def execScrubStepExpiry (k : ShelfNo) (s : State) : Host.Outcome State Fault Refusal :=
  .next (match (s.shelf k).stepTimer with
    | none => s
    | some d =>
        if (s.shelf k).state = .online then
          let s1 := s.reach d
          let s2 := s1.updShelf k (Shelf.stepLevel s1.now)
          if (s2.shelf k).level = (s.shelf k).level then s2 else ((Ev.start s2).runShelf k).finish
        else s)

/-- The expiry of a record: every head still awaited is fenced (R90), in rising order (log entry 6); no rule orders the
frames of two fencings (R174; log entry 7). -/
def Ev.revokeExpiry (ev : Ev) (r : Rev) : Ev :=
  ev.apart (fun ev h => ev.fenceHead r.vol r.ext h) (allHeads.filter fun h => r.awaited.contains h)

/-- REVOKE_EXPIRY (R90). -/
def execRevokeExpiry (vol ext : Nat) (s : State) : Host.Outcome State Fault Refusal :=
  .next (match s.revAt vol ext with
    | none => s
    | some r => ((Ev.start (s.reach r.expiry)).revokeExpiry r).finish)

end Sys2Proof.Machine
end

