-- ==== Sys2Proof/Machine/Translate.lean ====
section
/-! DEFINITION. The translation requests as they are first taken (R14, R56, R70, R88). -/

namespace Sys2Proof.Machine

/-- The parameter check of GRANT-DROP and REVOKE-ACK (R70, R88). -/
def keyParamsOk (vol ext : Nat) : Bool := vol < Config.volumes && ext ≤ Config.maxExtent

/-- A head is awaited on a key by an open record (R88). -/
def State.awaits (s : State) (vol ext : Nat) (h : Head) : Bool :=
  match s.revAt vol ext with
  | none => false
  | some r => r.awaited.contains h

/-- GRANT-DROP after its parameter check (R70): the record goes, the answer is OK, and an open record that awaits the
head loses it. The OK leaves before the frames of what the drop lets go on, be it a closing or a held request that gets
the freed grant entry: R70 names the answer before both (DESIGN CHOICE, log entry 7). -/
def State.grantDrop (s : State) (h : Head) (t : Tag) (vol ext : Nat) : State :=
  let ev := ((Ev.start s).dropHolder vol ext h).map fun s => s.replyWords h t []
  (if s.awaits vol ext h then ev.leaveAwaited vol ext h else ev).finish

/-- REVOKE-ACK after its parameter check (R88). -/
def State.revokeAck (s : State) (h : Head) (t : Tag) (vol ext : Nat) : State :=
  if s.awaits vol ext h then
    ((((Ev.start s).dropHolder vol ext h).map fun s => s.replyWords h t []).leaveAwaited vol ext h).finish
  else s.refuse h t .stale

/-- READ-MAP (R56, R60, R61). -/
def execReadMap (h : Head) (t : Tag) (vol lba count : Nat) (s : State) : Host.Outcome State Fault Refusal :=
  .next (s.take h t false fun s =>
    if mapParamsOk vol count then ((Ev.start s).readMap h t vol lba count none).finish else s.refuse h t .badParam)

/-- WRITE-MAP (R56, R62 to R69). -/
def execWriteMap (h : Head) (t : Tag) (vol lba count : Nat) (s : State) : Host.Outcome State Fault Refusal :=
  .next (s.take h t false fun s =>
    if mapParamsOk vol count then ((Ev.start s).writeMap h t vol lba count none).finish else s.refuse h t .badParam)

/-- GRANT-DROP (R70). -/
def execGrantDrop (h : Head) (t : Tag) (vol ext : Nat) (s : State) : Host.Outcome State Fault Refusal :=
  .next (s.take h t false fun s =>
    if keyParamsOk vol ext then s.grantDrop h t vol ext else s.refuse h t .badParam)

/-- REVOKE-ACK (R88). -/
def execRevokeAck (h : Head) (t : Tag) (vol ext : Nat) (s : State) : Host.Outcome State Fault Refusal :=
  .next (s.take h t false fun s =>
    if keyParamsOk vol ext then s.revokeAck h t vol ext else s.refuse h t .badParam)

end Sys2Proof.Machine
end

