-- ==== Sys2Proof/Machine/Dispatch.lean ====
section
/-! DEFINITION. The meaning of every command: one arm for each row of spec/opcode_table.json. -/

namespace Sys2Proof.Machine

def exec (i : Instr) (s : State) : Host.Outcome State Fault Refusal :=
  match i with
  | .powerOn links => Sys2Proof.Machine.execPowerOn links s
  | .resetLine links => Sys2Proof.Machine.execResetLine links s
  | .linkUp head => Sys2Proof.Machine.execLinkUp head s
  | .linkLoss head => Sys2Proof.Machine.execLinkLoss head s
  | .frameDiscard head bytes => Sys2Proof.Machine.execFrameDiscard head bytes s
  | .badKind head tag kind => Sys2Proof.Machine.execBadKind head tag kind s
  | .readMap head tag vol lba count => Sys2Proof.Machine.execReadMap head tag vol lba count s
  | .writeMap head tag vol lba count => Sys2Proof.Machine.execWriteMap head tag vol lba count s
  | .grantDrop head tag vol ext => Sys2Proof.Machine.execGrantDrop head tag vol ext s
  | .revokeAck head tag vol ext => Sys2Proof.Machine.execRevokeAck head tag vol ext s
  | .volMake head tag vol tenant size quota mask mark => Sys2Proof.Machine.execVolMake head tag vol tenant size quota mask mark s
  | .volGrow head tag vol size => Sys2Proof.Machine.execVolGrow head tag vol size s
  | .volQuota head tag vol quota => Sys2Proof.Machine.execVolQuota head tag vol quota s
  | .volMark head tag vol mark => Sys2Proof.Machine.execVolMark head tag vol mark s
  | .volMask head tag vol mask => Sys2Proof.Machine.execVolMask head tag vol mask s
  | .volFreeze head tag vol => Sys2Proof.Machine.execVolFreeze head tag vol s
  | .volThaw head tag vol => Sys2Proof.Machine.execVolThaw head tag vol s
  | .volHold head tag vol => Sys2Proof.Machine.execVolHold head tag vol s
  | .volUnhold head tag vol => Sys2Proof.Machine.execVolUnhold head tag vol s
  | .holdAll head tag => Sys2Proof.Machine.execHoldAll head tag s
  | .unholdAll head tag => Sys2Proof.Machine.execUnholdAll head tag s
  | .holdPin head tag => Sys2Proof.Machine.execHoldPin head tag s
  | .volDrop head tag vol => Sys2Proof.Machine.execVolDrop head tag vol s
  | .volTrim head tag vol first count => Sys2Proof.Machine.execVolTrim head tag vol first count s
  | .volClone head tag vol parent => Sys2Proof.Machine.execVolClone head tag vol parent s
  | .volRead head tag vol => Sys2Proof.Machine.execVolRead head tag vol s
  | .tenantSet head tag tenant limit => Sys2Proof.Machine.execTenantSet head tag tenant limit s
  | .tenantRead head tag tenant => Sys2Proof.Machine.execTenantRead head tag tenant s
  | .shelfJoin head tag shelf capacity label lowMark reserve baseLevel prezeroed => Sys2Proof.Machine.execShelfJoin head tag shelf capacity label lowMark reserve baseLevel prezeroed s
  | .shelfTune head tag shelf lowMark reserve baseLevel => Sys2Proof.Machine.execShelfTune head tag shelf lowMark reserve baseLevel s
  | .shelfPart head tag shelf => Sys2Proof.Machine.execShelfPart head tag shelf s
  | .shelfRead head tag shelf => Sys2Proof.Machine.execShelfRead head tag shelf s
  | .jobPause head tag => Sys2Proof.Machine.execJobPause head tag s
  | .jobGo head tag => Sys2Proof.Machine.execJobGo head tag s
  | .jobRead head tag => Sys2Proof.Machine.execJobRead head tag s
  | .rejoin head tag => Sys2Proof.Machine.execRejoin head tag s
  | .partRead head tag => Sys2Proof.Machine.execPartRead head tag s
  | .noteMask head tag classMask => Sys2Proof.Machine.execNoteMask head tag classMask s
  | .notePeek head tag => Sys2Proof.Machine.execNotePeek head tag s
  | .noteTake head tag => Sys2Proof.Machine.execNoteTake head tag s
  | .faultPop head tag => Sys2Proof.Machine.execFaultPop head tag s
  | .shelfLinkDown shelf => Sys2Proof.Machine.execShelfLinkDown shelf s
  | .shelfLinkUp shelf => Sys2Proof.Machine.execShelfLinkUp shelf s
  | .zeroDone shelf otag serial => Sys2Proof.Machine.execZeroDone shelf otag serial s
  | .zeroFault shelf otag serial cause => Sys2Proof.Machine.execZeroFault shelf otag serial cause s
  | .copyDone shelf otag serial => Sys2Proof.Machine.execCopyDone shelf otag serial s
  | .copyFault shelf otag serial cause => Sys2Proof.Machine.execCopyFault shelf otag serial cause s
  | .labelReadDone shelf otag serial label => Sys2Proof.Machine.execLabelReadDone shelf otag serial label s
  | .labelReadFault shelf otag serial cause => Sys2Proof.Machine.execLabelReadFault shelf otag serial cause s
  | .labelWriteDone shelf otag serial => Sys2Proof.Machine.execLabelWriteDone shelf otag serial s
  | .labelWriteFault shelf otag serial cause => Sys2Proof.Machine.execLabelWriteFault shelf otag serial cause s
  | .lateAnswer shelf otag serial frameOk => Sys2Proof.Machine.execLateAnswer shelf otag serial frameOk s
  | .orderTimeout shelf otag => Sys2Proof.Machine.execOrderTimeout shelf otag s
  | .reverifyExpiry shelf => Sys2Proof.Machine.execReverifyExpiry shelf s
  | .settleExpiry shelf => Sys2Proof.Machine.execSettleExpiry shelf s
  | .scrubStepExpiry shelf => Sys2Proof.Machine.execScrubStepExpiry shelf s
  | .revokeExpiry vol ext => Sys2Proof.Machine.execRevokeExpiry vol ext s
  | .jobStep => Sys2Proof.Machine.execJobStep s
  | .cloneCopyStep => Sys2Proof.Machine.execCloneCopyStep s

end Sys2Proof.Machine
end

