-- ==== Sys2Proof/Safety.lean ====
section
/-! DEFINITION. The vocabulary of claims: which head can be served, what a state is after one reply, the invariants
that every command keeps, and the bounds the spec gives. -/

namespace Sys2Proof.Machine

/-! ### Requests -/

/-- The tag of a request frame: of the requests of Table 10-3 and of a frame with an unknown kind (R169). -/
def requestTag : Instr → Option Tag
  | .badKind _ t _ => some t
  | .readMap _ t .. | .writeMap _ t .. | .grantDrop _ t .. | .revokeAck _ t .. | .volMake _ t .. | .volGrow _ t ..
  | .volQuota _ t .. | .volMark _ t .. | .volMask _ t .. | .volFreeze _ t .. | .volThaw _ t .. | .volHold _ t ..
  | .volUnhold _ t .. | .holdAll _ t | .unholdAll _ t | .holdPin _ t | .volDrop _ t .. | .volTrim _ t ..
  | .volClone _ t .. | .volRead _ t .. | .tenantSet _ t .. | .tenantRead _ t .. | .shelfJoin _ t ..
  | .shelfTune _ t .. | .shelfPart _ t .. | .shelfRead _ t .. | .jobPause _ t | .jobGo _ t | .jobRead _ t
  | .rejoin _ t | .partRead _ t | .noteMask _ t .. | .notePeek _ t | .noteTake _ t | .faultPop _ t => some t
  | .powerOn _ | .resetLine _ | .linkUp _ | .linkLoss _ | .frameDiscard _ _ | .shelfLinkDown _ | .shelfLinkUp _
  | .zeroDone _ _ _ | .zeroFault _ _ _ _ | .copyDone _ _ _ | .copyFault _ _ _ _ | .labelReadDone _ _ _ _
  | .labelReadFault _ _ _ _ | .labelWriteDone _ _ _ | .labelWriteFault _ _ _ _ | .lateAnswer _ _ _ _
  | .orderTimeout _ _ | .reverifyExpiry _ | .settleExpiry _ | .scrubStepExpiry _ | .revokeExpiry _ _ | .jobStep
  | .cloneCopyStep => none

/-- The kinds that a FENCED link serves (R169 step 3). -/
def servedFenced : Instr → Bool
  | .rejoin _ _ | .partRead _ _ | .faultPop _ _ | .notePeek _ _ | .noteTake _ _ | .noteMask _ _ _ => true
  | _ => false

/-- The link of the head is UP and the tag is free: a request is handed to the block that owns its kind (R169). -/
abbrev State.ready (s : State) (h : Head) (t : Tag) : Prop := (s.head h).link = .up ∧ t ∉ (s.head h).tags

/-- The link of the head is UP or FENCED and the tag is free: the kinds of R169 step 3 are served. -/
abbrev State.reachable (s : State) (h : Head) (t : Tag) : Prop :=
  (s.head h).link ≠ .dark ∧ t ∉ (s.head h).tags

/-- The state after one more reply frame. A request answered in the event that takes it leaves its head's tags as they
were (R169). -/
abbrev State.replied (s : State) (h : Head) (t : Tag) (status : Status) (ws : List Nat) : State :=
  s.emit (.reply h t status (.words ws))

/-- The state after one more reply frame that carries nothing but a status other than OK. -/
abbrev State.refused (s : State) (h : Head) (t : Tag) (status : Status) : State := s.replied h t status []

/-- Nothing is held and no pass runs: an event then sets nothing off at the Translation Unit or Volume Control. -/
abbrev State.quiet (s : State) : Prop := s.held = [] ∧ s.passes = []

/-- What a requester that waited for work in progress is sent when the work ends (R22, R69, R99, R160): nothing when its
link went DARK meanwhile (R167), FENCED with the fenced mark (R92 stage 3), else the answer given. -/
def Waiter.told (w : Waiter) (status : Status) (body : ReplyBody) : List Sent :=
  if w.detached then [] else if w.fenced then [.reply w.head w.tag .fenced (.words [])]
  else [.reply w.head w.tag status body]

/-! ### Invariants -/

/-- A shelf's settings, level and timeout count lie in their ranges; the low mark in 0 to C−1 (R20, R21, R27, R131). -/
def Shelf.inBounds (sh : Shelf) : Bool :=
  sh.reserve ≤ sh.lowMark && sh.lowMark ≤ sh.capacity - 1 && sh.baseLevel ≤ sh.level && sh.level ≤ 7 && sh.timeouts ≤ 3

/-- Every shelf lies in its ranges. -/
def State.shelvesInBounds (s : State) : Prop := ∀ k : ShelfNo, (s.shelf k).inBounds = true

/-- Every table of the Map Store, every directory and every map page is in its canonical form, so that equal contents
are equal data (log entry 20). -/
def State.tablesCanonical (s : State) : Prop :=
  Table.canonical Volume.freeRecord s.volumes = true ∧ Table.canonical 0 s.families = true ∧
    Table.canonical Tenant.initial s.tenants = true ∧
    ∀ q ∈ s.volumes, Table.sorted q.2.dir = true ∧ ∀ d ∈ q.2.dir, Table.canonical .unmapped d.2.entries = true

/-- The held list, the job queue, the pass, grant, revocation and COW records are not above their room (R71, R150, R95,
R79, R84, R102). -/
def State.inRoom (s : State) : Prop :=
  s.held.length ≤ Config.heldMax ∧ s.jobs.length ≤ Config.jobMax ∧ s.passes.length ≤ Config.passMax ∧
    s.grants.length ≤ Config.grantMax ∧ s.revs.length ≤ Config.revMax ∧ s.cows.length ≤ Config.cowMax

/-- Pass, held and reply sequence numbers in use are below the counters that give the next ones. -/
def State.numbered (s : State) : Prop :=
  (∀ p ∈ s.passes, p.seq < s.passSeq) ∧ (∀ x ∈ s.held, x.seq < s.heldSeq) ∧ (∀ r ∈ s.replies, r.id < s.replySeq)

/-- The laws of the grant table and the revocation records: one entry for a key, each with a holder (R79); one record for
a key, awaiting someone, and only holders of its key (R84); and a head whose link is not UP holds no grant and has no held
request (R76, R77, R93, R94). -/
def State.grantsLawful (s : State) : Prop :=
  (s.grants.map fun g => (g.vol, g.ext)).Nodup ∧ (∀ g ∈ s.grants, ∃ h : Head, g.holders[h] ≠ none) ∧
    (s.revs.map fun r => (r.vol, r.ext)).Nodup ∧
    (∀ r ∈ s.revs, r.awaited ≠ [] ∧ ∀ h ∈ r.awaited, s.holder r.vol r.ext h ≠ none) ∧
    ∀ h : Head, (s.head h).link ≠ .up → (∀ g ∈ s.grants, g.holders[h] = none) ∧ ∀ x ∈ s.held, x.head ≠ h

/-- The laws of a shelf's orders: the list within its room, each tag in flight once and below 32 (R121), and the orders
that the shelf's state admits (R120): one LABEL-WRITE while JOINING, one LABEL-READ while VERIFYING, ZERO and COPY while
ONLINE, and none in any other state. -/
def Shelf.ordersLawful (sh : Shelf) : Prop :=
  sh.orders.length ≤ Config.orderMax ∧ (sh.inFlight.map InFlight.tag).Nodup ∧
    (∀ f ∈ sh.inFlight, f.tag < Config.orderTags) ∧
    match sh.state with
    | .absent | .offline | .mismatch => sh.allOrders = []
    | .joining => sh.allOrders.length ≤ 1 ∧ ∀ o ∈ sh.allOrders, ∃ c l, o = .labelWrite c l
    | .verifying => sh.allOrders.length ≤ 1 ∧ ∀ o ∈ sh.allOrders, ∃ c, o = .labelRead c
    | .online => ∀ o ∈ sh.allOrders, (∃ c, o = .zero c) ∨ ∃ a b d n, o = .copy a b d n

/-- The orders of every shelf are lawful. -/
def State.ordersLawful (s : State) : Prop := ∀ k : ShelfNo, (s.shelf k).ordersLawful

/-- The map entries of a volume that are not UNMAPPED, each with its extent index (R17). -/
def Volume.entries (r : Volume) : List (Nat × MapEntry) :=
  r.dir.flatMap fun d => d.2.entries.map fun z => (d.1 * Config.pageEntries + z.1, z.2)

/-- The physical extent that an entry counts as a reference to (R31). -/
def MapEntry.extent : MapEntry → Option (ShelfNo × Nat)
  | .unmapped => none
  | .mapped k c => some (k, c)
  | .pending k c _ => some (k, c)

/-- The number of map entries, across all volumes, that name a slot (R31). -/
def State.naming (s : State) (k : ShelfNo) (slot : Nat) : Nat :=
  (s.volumes.map fun q => q.2.entries.countP fun z => z.2.extent = some (k, slot)).sum

/-- The volumes that a job names (R143). -/
def JobWork.volumes : JobWork → List Nat
  | .delete v => [v]
  | .trim v _ _ => [v]
  | .clone v parent => [v, parent]

/-- How far a job has come. The entries left to a DELETE lie from its cursor on (R151, R153). A CLONE has copied the
parent's pages below its cursor, and once its pass has ended no COW is left on the parent (R98, R158). -/
def State.jobLawful (s : State) (j : Job) : Prop :=
  match j.work with
  | .delete v =>
      (s.volume v).state = .deleting ∧ j.endIdx = (s.volume v).size ∧ ∀ z ∈ (s.volume v).entries, j.cursor ≤ z.1
  | .trim v _ _ => (s.volume v).state = .active ∨ (s.volume v).state = .frozen
  | .clone v parent =>
      let c := s.volume v
      let p := s.volume parent
      let copied := p.dir.filter fun d => d.1 * Config.pageEntries < j.cursor
      c.state = .building ∧ p.state = .source ∧ c.tenant = p.tenant ∧ c.size = p.size ∧ p.allocated ≤ c.quota ∧
        c.dir.map Prod.fst = copied.map Prod.fst ∧
        c.entries.length = (copied.map fun d => d.2.entries.length).sum ∧
        (s.clonePass j.number = false → s.cowOn parent = false)

/-- The laws of the job queue, and of the passes and held requests that bear on it: the head job is RUNNING or PAUSED and
every other job is WAITING (R150); no two jobs share a number or a volume (R143); every job has come as far as its cursor
says; a CLONE pass has its job (R95); a held WRITE-MAP lies in its volume (R15), which no job deletes or builds (R78). -/
def State.jobsLawful (s : State) : Prop :=
  (∀ j, s.headJob = some j → j.state ≠ .waiting) ∧ (∀ j ∈ s.jobs.tail, j.state = .waiting) ∧
    (s.jobs.map Job.number).Nodup ∧ (s.jobs.flatMap fun j => j.work.volumes).Nodup ∧ (∀ j ∈ s.jobs, s.jobLawful j) ∧
    (s.jobWait = .endWait → ∃ j, s.headJob = some j ∧ j.endIdx ≤ j.cursor) ∧ (s.passes.map Pass.seq).Nodup ∧
    (∀ p ∈ s.passes, ∀ n, p.cause = .clone n → ∃ j ∈ s.jobs, j.number = n ∧ ∃ v, j.work = .clone v p.vol) ∧
    ∀ x ∈ s.held, ∀ v lba n, x.req = .writeMap v lba n → 1 ≤ n ∧ n ≤ 1024 ∧
      lba + n ≤ (s.volume v).size * Config.extentBlocks ∧
      ((s.volume v).state = .active ∨ (s.volume v).state = .frozen ∨ (s.volume v).state = .source)

/-- The laws of the counts. Each volume in use: allocated is the number of its entries and within its quota (R48), its
page count the number of its pages, none of them empty (R5, R155). Each family: its member count is the number of volumes
in use of that family, at most 64 (R9). Each tenant: charged, promised and their limit (R49, R50), and its volume count (R49).
Map pages in use and pool free make 65,536, and reserved, what the CLONE jobs still need, is within pool free (R46). -/
def State.countsLawful (s : State) : Prop :=
  (∀ q ∈ s.volumes, q.1 < Config.volumes ∧ q.2.family < Config.families ∧ q.2.state ≠ .free ∧
    q.2.allocated = q.2.entries.length ∧ q.2.allocated ≤ q.2.quota ∧ q.2.pageCount = q.2.dir.length ∧
    (∀ z ∈ q.2.entries, z.1 < q.2.size) ∧ ∀ d ∈ q.2.dir, d.2.entries ≠ [] ∧
      ∀ z ∈ d.2.entries, z.1 < Config.pageEntries) ∧
  (∀ n, s.family n = (s.volumes.filter fun q => q.2.family = n).length ∧ s.family n ≤ Config.familyMax) ∧
  (∀ n, (s.tenant n).volumes = (s.volumes.filter fun q => q.2.tenant = n).length ∧
    (s.tenant n).charged = ((s.volumes.filter fun q => q.2.tenant = n).map fun q => q.2.allocated).sum ∧
    (s.tenant n).promised = (s.jobs.map fun j => match j.work with
      | .clone v p =>
          if (s.volume v).tenant = n then (s.volume p).allocated - (s.volume v).allocated else 0
      | .delete _ | .trim _ _ _ => 0).sum ∧
    (s.tenant n).charged + (s.tenant n).promised ≤ (s.tenant n).limit) ∧
  s.poolFree + s.usedPages.length = Config.pages ∧ s.usedPages.Nodup ∧ (∀ p ∈ s.usedPages, p < Config.pages) ∧
    s.reserved = (s.jobs.map fun j => match j.work with
      | .clone v p => (s.volume p).pageCount - (s.volume v).pageCount
      | .delete _ | .trim _ _ _ => 0).sum ∧
    s.reserved ≤ s.poolFree

/-- The laws of a shelf's PET, free list and scrub queue (R31, R32, R33): a shelf that is not ABSENT or JOINING has one
entry for each slot, the last of them LABEL; a slot's refcount is the number of map entries that name it; and its state
agrees with that, with the two lists, with the ZERO orders and with the COW records. -/
def State.petLawful (s : State) (k : ShelfNo) : Prop :=
  let sh := s.shelf k
  (match sh.state with
    | .absent => sh.pet = []
    | .joining => sh.pet = [] ∧ 1 ≤ sh.capacity
    | .verifying | .online | .offline | .mismatch => sh.pet.length = sh.capacity ∧ 1 ≤ sh.capacity) ∧
  sh.freeList.Nodup ∧ sh.scrubQueue.Nodup ∧ sh.retired = sh.countState .retired ∧
  ∀ c : Nat,
    let st := (sh.pet[c]?).map PetEntry.state
    sh.refs c = s.naming k c ∧ (st = some .inUse ↔ 0 < sh.refs c) ∧ (st = some .free ↔ c ∈ sh.freeList) ∧
      (st = some .scrubWait ↔ c ∈ sh.scrubQueue) ∧ (st = some .label ↔ c + 1 = sh.pet.length) ∧
      sh.allOrders.count (.zero c) = (if st = some .scrubbing then 1 else 0) ∧
      (s.cows.countP fun q => q.2.newShelf = k ∧ q.2.newSlot = c) = if st = some .copyTarget then 1 else 0

/-- The laws of the COW records: each is named by one PENDING entry, and each PENDING entry names one (R103); a record is
never COPIED and CLEAR at once, and has a COPY order while it is not COPIED (R102, R103). -/
def State.cowsLawful (s : State) : Prop :=
  Table.sorted s.cows = true ∧
  (∀ n c, s.cow n = some c → n < Config.cowMax ∧ s.entry c.vol c.ext = .pending c.oldShelf c.oldSlot n ∧
    ¬(c.copied = true ∧ c.clear = true) ∧
    (allShelves.flatMap fun k => (s.shelf k).allOrders).countP (fun o => o.owner = some n) =
      if c.copied then 0 else 1) ∧
  (∀ v e k slot n, s.entry v e = .pending k slot n → ∃ c, s.cow n = some c ∧ c.vol = v ∧ c.ext = e) ∧
  ∀ k a b d n, Order.copy a b d n ∈ (s.shelf k).allOrders → ∃ c, s.cow n = some c ∧ c.oldShelf = a ∧ c.oldSlot = b ∧
    c.newShelf = k ∧ c.newSlot = d ∧ c.copied = false

/-- The laws of the physical extents: of the PET of every shelf and of the COW records. -/
def State.extentsLawful (s : State) : Prop := (∀ k : ShelfNo, s.petLawful k) ∧ s.cowsLawful

/-- What the laws of the counts and of the extents rest on. -/
def State.sound (s : State) : Prop :=
  s.tablesCanonical ∧ s.inRoom ∧ s.numbered ∧ s.ordersLawful ∧ s.jobsLawful

end Sys2Proof.Machine
end

