-- ==== Sys2Proof/Certificates/Slice0/Obligations.lean ====
section
/-! DEFINITION. The statements for the provers. Each holds for every state and operand that meets its hypotheses; an
equation between states is its own frame: whatever it does not write is as it was. -/

section

open Sys2Proof Sys2Proof.Machine

/-! ### The queue and the taking of a request -/

/-- One step runs the command at the front of the queue on the state with the queue's rest. On an empty queue the part
idles and one millisecond passes: the model's choice (log entry 1). -/
def Obligations.QueueStepsOneCommand : Prop :=
  (∀ (c : Instr) (rest : List Instr) (s : State), s.pending = c :: rest →
    step s = exec c { s with pending := rest }) ∧
  (∀ s : State, s.pending = [] → step s = .next { s with now := s.now + 1 })

/-- R168, R169: a frame that fails its check is counted and nothing is sent. A request on an outstanding tag is answered
TAG-BUSY on that tag; a frame with an unknown kind is answered BAD-KIND, on an UP and on a FENCED link; a FENCED link
answers FENCED to every kind but six; none of these changes anything else. That a request on a DARK link is not taken is
the model's choice (log entry 24). -/
def Obligations.FramesTakenByCheckTagAndLink : Prop :=
  (∀ (h : Head) (bytes : List Byte) (s : State), (s.head h).link ≠ .dark → frameBad bytes = true →
    exec (.frameDiscard h bytes) s =
      .next (s.setHead h { s.head h with errors := min 65535 ((s.head h).errors + 1) })) ∧
  (∀ (c : Instr) (t : Tag) (s : State), c.wellFormed = true → requestTag c = some t →
    (s.head c.sender).link ≠ .dark → t ∈ (s.head c.sender).tags →
    exec c s = .next (s.refused c.sender t .tagBusy)) ∧
  (∀ (h : Head) (t : Tag) (kind : Nat) (s : State), s.reachable h t → knownKind kind = false →
    exec (.badKind h t kind) s = .next (s.refused h t .badKind)) ∧
  (∀ (c : Instr) (t : Tag) (s : State), c.isRequest = true → servedFenced c = false → requestTag c = some t →
    (s.head c.sender).link = .fenced → t ∉ (s.head c.sender).tags →
    exec c s = .next (s.refused c.sender t .fenced)) ∧
  (∀ (c : Instr) (t : Tag) (s : State), requestTag c = some t → (s.head c.sender).link = .dark → exec c s = .next s)

/-! ### Head links -/

/-- R165, R170, R173, R174: signal on a DARK link takes it UP and raises one PART notice with the start cause, the head
and the revision to that head alone. Unmasked it is sent; masked it becomes the pending record of its class, which
counts the one it replaces. REJOIN is served on an UP and on a FENCED link: the link is UP, the standing FENCE record is
cleared, and nothing else changes. -/
def Obligations.LinkEntersUp : Prop :=
  (∀ (h : Head) (s : State), (s.head h).link = .dark →
    let n : Notice := ⟨.part, s.startCause.code, h.val, 3, 0, 0⟩
    let r : HeadRec := { s.head h with link := .up }
    exec (.linkUp h) s = .next (
      if r.masks.part = false then (s.setHead h r).emit (.notice h n)
      else
        s.setHead h { r with pending := { r.pending with part := some { n with
          missed := match r.pending.part with
            | none => 0
            | some old => min 255 (old.missed + 1) } } })) ∧
  (∀ (h : Head) (t : Tag) (s : State), s.reachable h t →
    exec (.rejoin h t) s = .next ((s.setHead h { s.head h with link := .up, fence := none }).replied h t .ok []))

/-- R167, R69, R76, R94, R179: a head whose link is lost is DARK with every tag free, no notice record and no fault
record; it holds no grant, is awaited by no record and has no held entry. Its requests that wait for work in progress
carry the detached mark, and nothing more is sent to it. Its masks and error count stay, and so do the link states of
the other heads. -/
def Obligations.LinkLossStripsHead : Prop :=
  ∀ (h : Head) (s : State), (s.head h).link ≠ .dark → ∃ t : State,
    exec (.linkLoss h) s = .next t ∧
    t.head h = { s.head h with
      link := .dark, tags := [], pending := ⟨none, none, none, none⟩, fence := none, faultFirst := none,
      faultSecond := none } ∧
    (∀ v e, t.holder v e h = none) ∧ (∀ r ∈ t.revs, h ∉ r.awaited) ∧ (∀ x ∈ t.held, x.head ≠ h) ∧
    (∀ r ∈ t.replies, r.who.head = h → r.who.detached = true) ∧
    (∀ p ∈ t.passes, ∀ w, p.cause = .freeze w → w.head = h → w.detached = true) ∧
    (∀ w, t.pause = some w → w.head = h → w.detached = true) ∧
    (∀ k j, (t.shelf k).join = some j → j.who.head = h → j.who.detached = true) ∧
    (∀ x ∈ t.sent, x ∈ s.sent ∨ (∀ g st b, x ≠ .reply h g st b) ∧ ∀ n, x ≠ .notice h n) ∧
    (∀ k, k ≠ h → (t.head k).link = (s.head k).link)

/-- R171, R148, R30, R172: PART-READ, VOL-READ and SHELF-READ change nothing and answer the words of their lists in
order. PART-READ is served in UP and FENCED; VOL-READ in every volume state, and SHELF-READ in every shelf state with
the number of slots in each PET state. -/
def Obligations.ReadsReportPartVolumeAndShelf : Prop :=
  (∀ (h : Head) (t : Tag) (s : State), s.reachable h t →
    let link (k : Head) : Nat := match (s.head k).link with
      | .dark => 0
      | .up => 1
      | .fenced => 2
    let cause : Nat := match s.startCause with
      | .powerOn => 1
      | .resetLine => 2
    exec (.partRead h t) s = .next (s.replied h t .ok
      [6420, 3, h.val, cause, link 0, (s.head 0).errors, link 1, (s.head 1).errors, link 2, (s.head 2).errors, link 3,
        (s.head 3).errors, s.poolFree, s.reserved, s.grants.length, if s.reclaim then 1 else 0, s.revs.length,
        s.cows.length, s.passes.length, s.held.length, s.jobs.length])) ∧
  (∀ (h : Head) (t : Tag) (v : Nat) (s : State), s.ready h t →
    let r := s.volume v
    let flag (b : Bool) : Nat := if b then 1 else 0
    let prior : Nat := match r.prior with
      | none => 0
      | some .active => 1
      | some .frozen => 2
    let state : Nat := match r.state with
      | .free => 0
      | .active => 1
      | .frozen => 2
      | .building => 3
      | .source => 4
      | .deleting => 5
    exec (.volRead h t v) s = .next (
      if 1023 < v then s.refused h t .badParam
      else s.replied h t .ok
        [state, prior, r.tenant, r.family, if r.state = .free then 0 else s.family r.family, r.size, r.quota,
          r.allocated, r.mask.toNat, r.mark, flag r.crossed, flag r.hold, r.cursor.val, r.pageCount])) ∧
  (∀ (h : Head) (t : Tag) (n : Nat) (s : State), s.ready h t →
    (7 < n → exec (.shelfRead h t n) s = .next (s.refused h t .badParam)) ∧
    (∀ k : ShelfNo, n = k.val →
      let sh := s.shelf k
      let flag (b : Bool) : Nat := if b then 1 else 0
      let count (st : SlotState) : Nat := (sh.pet.filter fun p => p.state = st).length
      exec (.shelfRead h t n) s = .next (s.replied h t .ok
        [sh.state.code, sh.capacity, sh.label, sh.lowMark, sh.reserve, sh.baseLevel, sh.cond.code, sh.retired, sh.level,
          flag sh.linkUp, sh.timeouts, flag sh.settle.isSome, sh.freeList.length, sh.scrubQueue.length,
          count .free, count .inUse, count .scrubWait, count .scrubbing, count .copyTarget, count .retired,
          count .label])))

/-! ### Notices and fault history -/

/-- R175, R176, R178. NOTE-PEEK and NOTE-TAKE answer the first record that stands, the FENCE record before SHELF, JOB,
VOLUME and PART, and six zeros with none. NOTE-PEEK removes nothing; NOTE-TAKE removes what it returns, but never the
FENCE record. FAULT-POP answers the newest fault record, which the second then replaces; with none, five zeros.
NOTE-MASK applies bits 3 to 6 to SHELF, JOB, VOLUME and PART: the pending record of each class it leaves unmasked goes
out with its missed count, in the priority order, before the reply, and is cleared; a masked class keeps its record; the
reply's word is the applied mask. -/
def Obligations.NoticeAndFaultRecordsServed : Prop :=
  (∀ (h : Head) (t : Tag) (s : State), s.reachable h t →
    let r := s.head h
    let words : Option Notice → List Nat
      | none => [0, 0, 0, 0, 0, 0]
      | some n => [n.cls.code, n.detail, n.subject, n.valueA, n.valueB, n.missed]
    let p := r.pending
    let first : Option Notice := r.fence.or (p.shelf.or (p.job.or (p.volume.or p.part)))
    let after : PerClass (Option Notice) :=
      if r.fence.isSome then p
      else if p.shelf.isSome then { p with shelf := none }
      else if p.job.isSome then { p with job := none }
      else if p.volume.isSome then { p with volume := none }
      else { p with part := none }
    exec (.notePeek h t) s = .next (s.replied h t .ok (words first)) ∧
    exec (.noteTake h t) s = .next ((s.setHead h { r with pending := after }).replied h t .ok (words first))) ∧
  (∀ (h : Head) (t : Tag) (s : State), s.reachable h t →
    exec (.faultPop h t) s = .next (
      match (s.head h).faultFirst with
      | none => s.replied h t .ok [0, 0, 0, 0, 0]
      | some f =>
          (s.setHead h { s.head h with faultFirst := (s.head h).faultSecond, faultSecond := none }).replied h t .ok
            [1, f.shelf.val, f.slot, 2, f.cause.code])) ∧
  (∀ (h : Head) (t : Tag) (m : BitVec 16) (s : State), s.reachable h t →
    let p := (s.head h).pending
    let masks : PerClass Bool := ⟨m.getLsbD 3, m.getLsbD 4, m.getLsbD 5, m.getLsbD 6⟩
    let out (masked : Bool) (x : Option Notice) : List Sent := if masked then [] else (x.map (Sent.notice h)).toList
    let left (masked : Bool) (x : Option Notice) : Option Notice := if masked then x else none
    exec (.noteMask h t m) s = .next
      { s.setHead h { s.head h with
          masks := masks
          pending := ⟨left masks.shelf p.shelf, left masks.job p.job, left masks.volume p.volume,
            left masks.part p.part⟩ } with
        sent := s.sent ++ (out masks.shelf p.shelf ++ out masks.job p.job ++ out masks.volume p.volume ++
          out masks.part p.part) ++ [.reply h t .ok (.words
            [(if masks.shelf then 8 else 0) + (if masks.job then 16 else 0) + (if masks.volume then 32 else 0) +
              (if masks.part then 64 else 0)])] })

/-! ### Volumes -/

/-- R135: VOL-MAKE, its three checks in order, and its acceptance: the record, the family, the tenant's volume count,
and the answer. -/
def Obligations.VolMakeWritesRecord : Prop :=
  ∀ (h : Head) (t : Tag) (v tn size quota : Nat) (mask : BitVec 8) (mark : Nat) (s : State), s.ready h t →
    let q := min quota size
    let m := if mark = 0 then 0 else if mark < 50 then 50 else if 100 < mark then 100 else mark
    let made (f : Nat) : Volume :=
      { state := .active, prior := none, tenant := tn, family := f, size := size, quota := q, allocated := 0,
        mask := mask, mark := m, crossed := false, hold := false, cursor := 0, dir := [], pageCount := 0 }
    let free (f : Nat) : Prop := f < 1024 ∧ s.family f = 0
    (¬(v ≤ 1023 ∧ tn ≤ 255 ∧ 1 ≤ size ∧ size ≤ 1048576 ∧ mask ≠ 0) →
      exec (.volMake h t v tn size quota mask mark) s = .next (s.refused h t .badParam)) ∧
    ((v ≤ 1023 ∧ tn ≤ 255 ∧ 1 ≤ size ∧ size ≤ 1048576 ∧ mask ≠ 0) →
      ((s.volume v).state ≠ .free →
        exec (.volMake h t v tn size quota mask mark) s = .next (s.refused h t .exists_)) ∧
      ((s.volume v).state = .free →
        ((∃ x ∈ s.held, ∃ p, x.req = .volClone v p) →
          exec (.volMake h t v tn size quota mask mark) s = .next (s.refused h t .volumeBusy)) ∧
        ((∀ x ∈ s.held, ∀ p, x.req ≠ .volClone v p) → ∀ f, free f → (∀ g, g < f → ¬free g) →
          exec (.volMake h t v tn size quota mask mark) s = .next
            ((((s.setFamily f 1).setVolume v (made f)).updTenant tn fun x =>
              { x with volumes := x.volumes + 1 }).replied h t .ok [q, m, f]))))

/-- R134, R136, R137, R138, R140, R177: VOL-GROW changes the virtual size alone. VOL-THAW makes a FROZEN volume ACTIVE
unless its FREEZE pass still runs, and on an ACTIVE volume answers OK and changes nothing. VOL-QUOTA clamps the quota to
the range allocated to V, VOL-MARK clamps the mark, and each sets the mark-crossed flag to the mark test without a
notice. VOL-MASK writes the mask alone and refuses an empty one. That a VOL-GROW to a size not above V is BAD-PARAM
before the state is judged is the model's choice (log entry 12). -/
def Obligations.VolumeSettingsServed : Prop :=
  (∀ (h : Head) (t : Tag) (v size : Nat) (s : State), s.ready h t →
    exec (.volGrow h t v size) s = .next (
      if 1023 < v ∨ size ≤ (s.volume v).size ∨ 1048576 < size then s.refused h t .badParam
      else match (s.volume v).state with
        | .active | .frozen => (s.updVolume v fun r => { r with size := size }).replied h t .ok [size]
        | .source | .building => s.refused h t .sourceBusy
        | .deleting => s.refused h t .gone
        | .free => s.refused h t .noVolume)) ∧
  (∀ (h : Head) (t : Tag) (v : Nat) (s : State), s.ready h t →
    exec (.volThaw h t v) s = .next (
      if 1023 < v then s.refused h t .badParam
      else match (s.volume v).state with
        | .active => s.replied h t .ok []
        | .frozen =>
            if s.freezePassOn v then s.refused h t .volumeBusy
            else (s.setVolume v { s.volume v with state := .active }).replied h t .ok []
        | .source | .building => s.refused h t .sourceBusy
        | .deleting => s.refused h t .gone
        | .free => s.refused h t .noVolume)) ∧
  (∀ (h : Head) (t : Tag) (v quota : Nat) (s : State), s.ready h t →
    let r := s.volume v
    let q := if quota < r.allocated then r.allocated else if r.size < quota then max r.allocated r.size else quota
    let served : State :=
      (s.setVolume v { r with quota := q, crossed := decide (r.mark ≠ 0 ∧ q * r.mark ≤ r.allocated * 100) }).replied
        h t .ok [q]
    exec (.volQuota h t v quota) s = .next (
      if 1023 < v then s.refused h t .badParam
      else match r.state with
        | .active | .frozen | .source => served
        | .building => s.refused h t .sourceBusy
        | .deleting => s.refused h t .gone
        | .free => s.refused h t .noVolume)) ∧
  (∀ (h : Head) (t : Tag) (v : Nat) (s : State), s.ready h t →
    let r := s.volume v
    let gate (served : State) : State := match r.state with
      | .active | .frozen | .source | .building => served
      | .deleting => s.refused h t .gone
      | .free => s.refused h t .noVolume
    (∀ mark : Nat,
      let m := if mark = 0 then 0 else if mark < 50 then 50 else if 100 < mark then 100 else mark
      exec (.volMark h t v mark) s = .next (
        if 1023 < v then s.refused h t .badParam
        else gate ((s.setVolume v { r with
          mark := m, crossed := decide (m ≠ 0 ∧ r.quota * m ≤ r.allocated * 100) }).replied h t .ok [m]))) ∧
    (∀ mask : BitVec 8,
      exec (.volMask h t v mask) s = .next (
        if 1023 < v ∨ mask = 0 then s.refused h t .badParam
        else gate ((s.setVolume v { r with mask := mask }).replied h t .ok []))))

/-- R134, R141, R142: VOL-HOLD and VOL-UNHOLD write the hold flag of one volume that is not FREE, HOLD-ALL and
UNHOLD-ALL that of every one, and answer how many flags they changed. While the pin is set all four are refused PINNED,
after the parameter check and before the gate. HOLD-PIN sets the pin and is answered OK. After power-on and after the
reset line the pin is clear and every hold flag keeps its value; no other command clears the pin. -/
def Obligations.HoldFlagsAndPin : Prop :=
  (∀ (h : Head) (t : Tag) (v : Nat) (s : State), s.ready h t →
    let answer (flag : Bool) : State :=
      if 1023 < v then s.refused h t .badParam
      else if s.pin then s.refused h t .pinned
      else if (s.volume v).state = .free then s.refused h t .noVolume
      else (s.setVolume v { s.volume v with hold := flag }).replied h t .ok []
    exec (.volHold h t v) s = .next (answer true) ∧ exec (.volUnhold h t v) s = .next (answer false)) ∧
  (∀ (h : Head) (t : Tag) (s : State), s.ready h t →
    let changed (flag : Bool) : Nat := (s.volumes.filter fun p => p.2.state ≠ .free ∧ p.2.hold ≠ flag).length
    ∀ flag : Bool,
      let c : Instr := if flag then .holdAll h t else .unholdAll h t
      (s.pin = true → exec c s = .next (s.refused h t .pinned)) ∧
      (s.pin = false → ∃ vs : Table Volume,
        exec c s = .next ({ s with volumes := vs }.replied h t .ok [changed flag]) ∧
        ∀ v, Table.get Volume.freeRecord vs v =
          if (s.volume v).state = .free then s.volume v else { s.volume v with hold := flag })) ∧
  (∀ (h : Head) (t : Tag) (s : State), s.ready h t →
    exec (.holdPin h t) s = .next ({ s with pin := true }.replied h t .ok [])) ∧
  (∀ (links : BitVec 8) (s : State), ∀ c ∈ [Instr.powerOn links, .resetLine links], ∃ t : State,
    exec c s = .next t ∧ t.pin = false ∧ ∀ v, (t.volume v).hold = (s.volume v).hold) ∧
  (∀ (c : Instr) (s t : State), (∀ links, c ≠ .powerOn links ∧ c ≠ .resetLine links) → s.pin = true →
    exec c s = .next t → t.pin = true)

/-! ### Requests that queue a job -/

/-- R134, R143, R145: VOL-TRIM, its checks in order, and its acceptance: a TRIM job at the tail with the next job
number, WAITING, or RUNNING at once if it is the head (R150), and nothing else. With at most five jobs in the queue that
number is the counter's value, or the next one in wrapping order that no queued job holds. -/
def Obligations.VolTrimQueuesJob : Prop :=
  (∀ (h : Head) (t : Tag) (v first count : Nat) (s : State), s.ready h t →
    let n := s.jobNumber
    let job : Job := ⟨n, .trim v first count, first, first + count, .waiting, 0⟩
    let started (line : List Job) : List Job := match line with
      | [] => []
      | j :: rest => (if j.state = .waiting then { j with state := .running } else j) :: rest
    let own : State :=
      if (s.volume v).size < first + count then s.refused h t .range
      else if (s.volume v).hold then s.refused h t .onHold
      else if s.jobNames v then s.refused h t .volumeBusy
      else if 5 ≤ s.jobs.length then s.refused h t .jobFull
      else ({ s with jobs := started (s.jobs ++ [job]), nextJob := (n + 1) % 256 } : State).replied h t .ok [n]
    exec (.volTrim h t v first count) s = .next (
      if 1023 < v ∨ 1048575 < first ∨ count = 0 ∨ 1048576 < count then s.refused h t .badParam
      else match (s.volume v).state with
        | .active | .frozen => own
        | .source | .building => s.refused h t .sourceBusy
        | .deleting => s.refused h t .gone
        | .free => s.refused h t .noVolume)) ∧
  (∀ s : State, s.jobs.length ≤ 5 → s.nextJob < 256 → ∃ i < 6,
    s.jobNumber = (s.nextJob + i) % 256 ∧ (∀ j ∈ s.jobs, j.number ≠ s.jobNumber) ∧
      ∀ k < i, ∃ j ∈ s.jobs, j.number = (s.nextJob + k) % 256)

/-- R134, R143, R144, R78: VOL-DROP, its checks in order. Where no held request on another volume waits for a key of one
on this volume, its acceptance makes the volume DELETING, queues a DELETE job from extent index 0 (RUNNING at once if it
is the head, R150), answers GONE to every held request that names the volume, and answers the job's number; only reclaim
acts besides (R82). That reclaim's notices leave before these replies is R174 (log entry 7); that the GONE answers leave
in arrival order is the model's choice (log entry 33). -/
def Obligations.VolDropQueuesDelete : Prop :=
  ∀ (h : Head) (t : Tag) (v : Nat) (s : State), s.ready h t →
    (∀ x ∈ s.held, ∀ y ∈ s.held, x.req.volume = v → y.req.volume ≠ v → ∀ k ∈ x.req.keys, y.reason ≠ .key k.1 k.2) →
    let n := s.jobNumber
    let job : Job := ⟨n, .delete v, 0, (s.volume v).size, .waiting, 0⟩
    let started (line : List Job) : List Job := match line with
      | [] => []
      | j :: rest => (if j.state = .waiting then { j with state := .running } else j) :: rest
    let s1 : State := s.setVolume v { s.volume v with state := .deleting }
    let s2 : State := { s1 with
      jobs := started (s.jobs ++ [job]), nextJob := (n + 1) % 256
      held := s.held.filter fun x => x.req.volume ≠ v }
    let own : State :=
      if (s.volume v).hold then s.refused h t .onHold
      else if s.jobNames v then s.refused h t .volumeBusy
      else if 5 ≤ s.jobs.length then s.refused h t .jobFull
      else ((s.held.filter fun x => x.req.volume = v).foldl (fun z x => z.refuse x.head x.tag .gone)
        s2.reclaimEnd).replied h t .ok [n]
    exec (.volDrop h t v) s = .next (
      if 1023 < v then s.refused h t .badParam
      else match (s.volume v).state with
        | .active | .frozen => own
        | .source | .building => s.refused h t .sourceBusy
        | .deleting => s.refused h t .gone
        | .free => s.refused h t .noVolume)

/-! ### Freezing and cloning -/

/-- R134, R139, R72, R95, R99: VOL-FREEZE, but for an acceptance that waits: the parameter check, the gate, OK on a
FROZEN volume, VOLUME-BUSY while its FREEZE pass runs, and, with no pass record free, a held entry with reason PASS-ROOM
or BACKLOG. On an ACTIVE volume with no WRITE holder and no COW the pass ends in the acceptance event: the volume is
FROZEN and the request is answered OK. Only reclaim acts besides (R82), its notices before the reply (R174, log entry
7). -/
def Obligations.VolFreezeAnsweredOrHeld : Prop :=
  (∀ (h : Head) (t : Tag) (v : Nat) (s : State), s.ready h t → 1023 < v →
    exec (.volFreeze h t v) s = .next (s.refused h t .badParam)) ∧
  (∀ (h : Head) (t : Tag) (v : Nat) (s : State), s.ready h t → v ≤ 1023 →
    ¬((s.volume v).state = .active ∧ s.passes.length < 4) →
    let r := s.reclaimEnd
    exec (.volFreeze h t v) s = .next (
      match (s.volume v).state with
        | .active =>
            if s.held.length < 32 then
              State.reclaimEnd { s.openTag h t with
                held := s.held ++ [⟨h, t, .volFreeze v, .passRoom, s.heldSeq⟩], heldSeq := s.heldSeq + 1 }
            else r.refused h t .backlog
        | .frozen => if s.freezePassOn v then r.refused h t .volumeBusy else r.replied h t .ok []
        | .source | .building => r.refused h t .sourceBusy
        | .deleting => r.refused h t .gone
        | .free => r.refused h t .noVolume)) ∧
  (∀ (h : Head) (t : Tag) (v : Nat) (s : State), s.ready h t → v ≤ 1023 → (s.volume v).state = .active →
    s.passes.length < 4 → s.numbered → s.writeKeys v = [] → s.cowOn v = false → s.jobWait ≠ .endWait →
    (∀ x ∈ s.held, x.reason ≠ .passRoom) →
    exec (.volFreeze h t v) s = .next ((State.reclaimEnd
      { s.setVolume v { s.volume v with state := .frozen } with passSeq := s.passSeq + 1 }).replied h t .ok []))

/-- R139, R85, R95, R97, R98: VOL-FREEZE on an ACTIVE volume with a WRITE holder, or with a COW in progress, is not
answered at its acceptance. The volume is FROZEN, a pass with cause FREEZE stands with the request as its waiting party,
and the tag stays outstanding. The pass opens a DOWNGRADE record on each of its keys that has no open record, awaiting
the key's WRITE holders for 40 ms, with a REVOKE notice to each whose link is not DARK, and its to-do set keeps the keys
that have one. With fewer records free than such keys, it opens those it can, in ascending extent index, and waits at
the first key that is left. That the notices of one record leave in rising head number is the model's choice (log entry
31). -/
def Obligations.VolFreezeWaitsForWriters : Prop :=
  (∀ (h : Head) (t : Tag) (v e : Nat) (s : State), s.ready h t → v ≤ 1023 → (s.volume v).state = .active →
    s.passes.length < 4 → s.numbered → s.writersOf v e ≠ [] → ∃ u : State,
    exec (.volFreeze h t v) s = .next u ∧
    u.volumes = (s.setVolume v { s.volume v with state := .frozen }).volumes ∧
    u.heads = (s.openTag h t).heads ∧ u.shelves = s.shelves ∧ u.jobs = s.jobs ∧ u.held = s.held ∧ u.cows = s.cows ∧
    u.grants = s.grants ∧ (∀ p ∈ s.passes, p ∈ u.passes) ∧
    (∃ p ∈ u.passes, p.vol = v ∧ p.cause = .freeze ⟨h, t, false, false⟩) ∧
    ∀ x ∈ u.sent, x ∈ s.sent ∨ ∃ k n, x = .notice k n ∧ n.cls = .revoke) ∧
  (∀ (h : Head) (t : Tag) (v : Nat) (s : State), s.ready h t → v ≤ 1023 → (s.volume v).state = .active →
    s.passes.length < 4 → s.numbered → (s.grants.map fun g => (g.vol, g.ext)).Nodup → s.writeKeys v ≠ [] →
    let ready := (s.writeKeys v).filter fun e => s.revAt v e = none
    let opened := ready.take (64 - s.revs.length)
    let short := ready.drop (64 - s.revs.length)
    let down (x : Sent) : Bool := match x with
      | .notice _ n => n.cls = .revoke ∧ n.detail = 5
      | _ => false
    ∃ u rs ns, exec (.volFreeze h t v) s = .next u ∧
      u.passes = s.passes ++ [⟨s.passSeq, v, .freeze ⟨h, t, false, false⟩, (s.writeKeys v).filter fun e => e ∉ opened,
        opened.length, short.head?⟩] ∧
      u.revs = s.revs ++ (opened.map fun e =>
        ⟨v, e, .downgrade, s.writersOf v e, s.now + 40, .pass s.passSeq⟩) ++ rs ∧ (∀ r ∈ rs, r.reason = .reclaim) ∧
      u.sent = s.sent ++ ns ∧ (ns.filter down = opened.flatMap fun e =>
        ((s.writersOf v e).filter fun k => (s.head k).link ≠ .dark).map fun k => .notice k ⟨.revoke, 5, v, e, 0, 0⟩) ∧
      (short ≠ [] → rs = [] ∧ ∀ x ∈ ns, down x = true)) ∧
  (∀ (h : Head) (t : Tag) (v : Nat) (s : State), s.ready h t → v ≤ 1023 → (s.volume v).state = .active →
    s.passes.length < 4 → s.numbered → s.writeKeys v = [] → s.cowOn v = true →
    exec (.volFreeze h t v) s = .next (State.reclaimEnd
      { (s.openTag h t).setVolume v { s.volume v with state := .frozen } with
        passes := s.passes ++ [⟨s.passSeq, v, .freeze ⟨h, t, false, false⟩, [], 0, none⟩]
        passSeq := s.passSeq + 1 }))

/-- R146 and R72: the checks of VOL-CLONE in their order, up to the hold for want of a pass record. Only reclaim acts
besides (R82), its notices before the reply (R174, log entry 7). -/
def Obligations.VolCloneChecksInOrder : Prop :=
  ∀ (h : Head) (t : Tag) (v parent : Nat) (s : State), s.ready h t →
    let p := s.volume parent
    let tn := s.tenant p.tenant
    let gate : Option Status :=
      if (s.volume v).state ≠ .free then some .exists_
      else if s.setAside v none then some .volumeBusy
      else match p.state with
        | .free | .building => some .noVolume
        | .deleting => some .gone
        | .source => some .sourceBusy
        | .active | .frozen =>
            if s.jobNames parent then some .volumeBusy
            else if 64 ≤ s.family p.family then some .familyFull
            else if s.poolFree - s.reserved < p.pageCount then some .noPage
            else if tn.limit < tn.charged + tn.promised + p.allocated then some .tenantLimit
            else if 5 ≤ s.jobs.length then some .jobFull
            else none
    (1023 < v ∨ 1023 < parent → exec (.volClone h t v parent) s = .next (s.refused h t .badParam)) ∧
    (v ≤ 1023 → parent ≤ 1023 →
      (∀ st, gate = some st → exec (.volClone h t v parent) s = .next (s.reclaimEnd.refused h t st)) ∧
      (gate = none → 4 ≤ s.passes.length → s.held.length < 32 → exec (.volClone h t v parent) s =
        .next ({ s.openTag h t with
          held := s.held ++ [⟨h, t, .volClone v parent, .passRoom, s.heldSeq⟩]
          heldSeq := s.heldSeq + 1 } : State).reclaimEnd) ∧
      (gate = none → 4 ≤ s.passes.length → 32 ≤ s.held.length →
        exec (.volClone h t v parent) s = .next (s.reclaimEnd.refused h t .backlog)))

/-- R147, R143, R150, R51, R85, R95, R97: the acceptance of VOL-CLONE: parent, new record, family, tenant, reserved
pages, CLONE job (RUNNING at once if it is the head), a VOLUME notice to every head if the tenant has now reached its
limit, and the answer, whatever the pass is doing. With no WRITE holder and no COW on the parent the pass ends at once.
With one it stays: it opens a DOWNGRADE record on each of its keys that has no open record, awaiting the key's WRITE
holders, as many as records are free, in ascending extent index, and its to-do set keeps the others. Only reclaim acts
besides (R82), its notices before the reply (R174, log entry 7). That the VOLUME notice leaves before the pass's REVOKE
notices is read from section 8.9 (log entry 35), and that one notice's frames leave in rising head number is the model's
choice (log entry 31). -/
def Obligations.VolCloneAccepted : Prop :=
  ∀ (h : Head) (t : Tag) (v parent : Nat) (s : State), s.ready h t → v ≤ 1023 → parent ≤ 1023 →
    let p := s.volume parent
    let tn := s.tenant p.tenant
    let keys := s.writeKeys parent
    (s.volume v).state = .free → s.setAside v none = false → p.state = .active ∨ p.state = .frozen →
    s.jobNames parent = false → s.family p.family < 64 → p.pageCount ≤ s.poolFree - s.reserved →
    tn.charged + tn.promised + p.allocated ≤ tn.limit → s.jobs.length < 5 → s.passes.length < 4 → s.numbered →
    (s.grants.map fun g => (g.vol, g.ext)).Nodup →
    let n := s.jobNumber
    let started (line : List Job) : List Job := match line with
      | [] => []
      | j :: rest => (if j.state = .waiting then { j with state := .running } else j) :: rest
    let clone : Volume :=
      { state := .building, prior := none, tenant := p.tenant, family := p.family, size := p.size, quota := p.quota,
        allocated := 0, mask := p.mask, mark := p.mark, crossed := false, hold := false, cursor := 0, dir := [],
        pageCount := 0 }
    let s1 := s.setVolume parent
      { p with state := .source, prior := some (if p.state = .frozen then .frozen else .active) }
    let s2 := (s1.setVolume v clone).setFamily p.family (s.family p.family + 1)
    let s3 := s2.updTenant p.tenant fun x =>
      { x with volumes := x.volumes + 1, promised := x.promised + p.allocated }
    let s4 : State := { s3 with
      reserved := s.reserved + p.pageCount
      jobs := started (s.jobs ++ [⟨n, .clone v parent, 0, 0, .waiting, 0⟩])
      nextJob := (n + 1) % 256
      passSeq := s.passSeq + 1 }
    let s5 : State :=
      if tn.charged + tn.promised < tn.limit ∧ tn.charged + tn.promised + p.allocated = tn.limit then
        s4.notifyAll ⟨.volume, 2, p.tenant, tn.charged, tn.promised + p.allocated, 0⟩
      else s4
    let ready := keys.filter fun e => s.revAt parent e = none
    let opened := ready.take (64 - s.revs.length)
    let short := ready.drop (64 - s.revs.length)
    let s6 : State := opened.foldl
      (fun z e => z.openRev parent e .downgrade (s.writersOf parent e) (.pass s.passSeq))
      { s5 with passes := s.passes ++
        [⟨s.passSeq, parent, .clone n, keys.filter fun e => e ∉ opened, opened.length, short.head?⟩] }
    (keys = [] → s.cowOn parent = false → s.jobWait ≠ .endWait → (∀ x ∈ s.held, x.reason ≠ .passRoom) →
      exec (.volClone h t v parent) s = .next (s5.reclaimEnd.replied h t .ok [n])) ∧
    (keys ≠ [] ∨ s.cowOn parent = true →
      exec (.volClone h t v parent) s = .next (s6.reclaimEnd.replied h t .ok [n]))

/-! ### Tenants -/

/-- R49, R52, R53: TENANT-SET sets the limit to the larger of the requested limit and charged + promised, and no other
command changes a tenant's limit. TENANT-READ changes nothing and answers the record and the headroom, which is the
largest number of extents that check 3 of an admission (R42) would pass. -/
def Obligations.TenantLimitAndHeadroom : Prop :=
  (∀ (h : Head) (t : Tag) (n limit : Nat) (s : State), s.ready h t →
    let x := s.tenant n
    let applied := if limit < x.charged + x.promised then x.charged + x.promised else limit
    exec (.tenantSet h t n limit) s = .next (
      if 255 < n then s.refused h t .badParam
      else (s.updTenant n fun _ => { x with limit := applied }).replied h t .ok [applied])) ∧
  (∀ (c : Instr) (n : Nat) (s t : State), (∀ h g limit, c ≠ .tenantSet h g n limit) → exec c s = .next t →
    (t.tenant n).limit = (s.tenant n).limit) ∧
  (∀ (h : Head) (t : Tag) (n : Nat) (s : State), s.ready h t →
    let x := s.tenant n
    exec (.tenantRead h t n) s = .next (
      if 255 < n then s.refused h t .badParam
      else s.replied h t .ok [x.limit, x.charged, x.promised, x.volumes, x.limit - x.charged - x.promised])) ∧
  (∀ (x : Tenant) (k : Nat), x.charged + x.promised ≤ x.limit →
    (x.charged + x.promised + k ≤ x.limit ↔ k ≤ x.limit - x.charged - x.promised))

/-! ### Translation requests -/

/-- R16: the split of a request into one or two segments, each inside one extent, which together cover it; segment 1
exists when n > l0, and in range every extent index is below the virtual size. -/
def Obligations.RangeSplitsIntoSegments : Prop :=
  ∀ lba n : Nat, 1 ≤ n → n ≤ 1024 →
    let o0 := lba % 1024
    let l0 := min n (1024 - o0)
    segments lba n = (if l0 < n then [⟨lba / 1024, o0, l0⟩, ⟨lba / 1024 + 1, 0, n - l0⟩] else [⟨lba / 1024, o0, l0⟩]) ∧
    ((segments lba n).length = 1 ↔ n ≤ 1024 - o0) ∧
    (∀ g ∈ segments lba n, 1 ≤ g.length ∧ g.offset + g.length ≤ 1024) ∧
    ((segments lba n).map Seg.length).sum = n ∧
    (l0 < n → n - l0 ≤ o0 ∧ n - l0 ≤ 1023) ∧
    (∀ size, lba + n ≤ size * 1024 → ∀ g ∈ segments lba n, g.ext < size)

/-- R56, R57, R14, R15, R59, R60, R61, R72: READ-MAP, whole. Its steps in order, the segments of its answer, the holder
records it makes, and its hold. Only reclaim acts besides (R82), its notices before the reply (R174, log entry 7). -/
def Obligations.ReadMapAnswersOrHolds : Prop :=
  ∀ (h : Head) (t : Tag) (v lba n : Nat) (s : State), s.ready h t →
    let segs := segments lba n
    let seg (g : Seg) : Segment := match s.entry v g.ext with
      | .unmapped => ⟨.hole, 0, 0, g.length, false⟩
      | .mapped k c | .pending k c _ =>
          ⟨if (s.shelf k).state = .online then .data else .down, k, c * 1024 + g.offset, g.length, false⟩
    let refused (st : Status) : State := s.reclaimEnd.refused h t st
    let hold (r : Reason) : State :=
      if s.held.length < 32 then
        State.reclaimEnd { s.openTag h t with
          held := s.held ++ [⟨h, t, .readMap v lba n, r, s.heldSeq⟩], heldSeq := s.heldSeq + 1 }
      else refused .backlog
    let served : State :=
      if (s.volume v).size * 1024 < lba + n then refused .range
      else match segs.find? fun g => s.blocked h v g.ext none with
        | some g => hold (.key v g.ext)
        | none =>
            if 16384 < s.grants.length + segs.countP fun g => (s.grantAt v g.ext).isNone then hold .grantRoom
            else
              (segs.foldl (fun x g => x.setHolder v g.ext h ((x.holder v g.ext h).getD .read)) s).reclaimEnd.emit
                (.reply h t .ok (.segments (segs.map seg)))
    exec (.readMap h t v lba n) s = .next (
      if 1023 < v ∨ n = 0 ∨ 1024 < n then s.refused h t .badParam
      else match (s.volume v).state with
        | .active | .frozen | .source => served
        | .free | .building => refused .noVolume
        | .deleting => refused .gone)

/-- R59: what blocks a key for a head: a PENDING entry, an open record, a held entry of the same head on the key; grants
alone hold no one back. R61, R62 and R80: recording a holder sets its record, leaves every other record of the grant
table as it is, and moves the key's entry to the newest end of the age order. -/
def Obligations.KeyHoldsAndHolders : Prop :=
  (∀ (h : Head) (v e : Nat) (s : State),
    s.blocked h v e none = true ↔
      (∃ k c n, s.entry v e = .pending k c n) ∨ (∃ r ∈ s.revs, r.vol = v ∧ r.ext = e) ∨
        ∃ x ∈ s.held, x.head = h ∧ ((∃ lba n, (x.req = .readMap v lba n ∨ x.req = .writeMap v lba n) ∧
          ∃ g ∈ segments lba n, g.ext = e))) ∧
  (∀ (s : State) (v e : Nat) (h : Head) (kind : GrantKind),
    let u := s.setHolder v e h kind
    u.holder v e h = some kind ∧
    (∀ k, k ≠ h → u.holder v e k = s.holder v e k) ∧
    (∀ v' e' k, (v', e') ≠ (v, e) → u.holder v' e' k = s.holder v' e' k) ∧
    (∃ rest g, u.grants = rest ++ [g] ∧ g.vol = v ∧ g.ext = e ∧ (∀ x ∈ rest, x ∈ s.grants ∧ (x.vol, x.ext) ≠ (v, e))))

/-- R56, R57, R58, R42, R43, R44: WRITE-MAP that is not committed: its steps and its admission checks in their order,
what each answers, and the reason of each hold. k, w and p are the counts of R19. Only reclaim acts besides (R82), its
notices before the reply (R174, log entry 7). That ORDER-ROOM names the first of two shelves that both lack room is the
model's choice (log entry 29). -/
def Obligations.WriteMapChecksInOrder : Prop :=
  ∀ (h : Head) (t : Tag) (v lba n : Nat) (s : State), s.ready h t →
    let segs := segments lba n
    let r := s.volume v
    let tn := s.tenant r.tenant
    let fresh := segs.filter fun g => s.entry v g.ext = .unmapped
    let shared := segs.filter fun g => s.segKind v g.ext = .shared
    let k := fresh.length
    let w := shared.length
    let p := ((fresh.filter fun g => !r.slotPresent g.ext).map fun g => g.ext / 256).dedup.length
    let opening := segs.countP fun g => s.segKind v g.ext ≠ .unshared ∧ s.othersOf v g.ext h ≠ []
    let picks := s.pickAll r.mask r.cursor [] (List.replicate k true ++ List.replicate w false)
    let refused (st : Status) : State := s.reclaimEnd.refused h t st
    let hold (x : Reason) : State :=
      if s.held.length < 32 then
        State.reclaimEnd { s.openTag h t with
          held := s.held ++ [⟨h, t, .writeMap v lba n, x, s.heldSeq⟩], heldSeq := s.heldSeq + 1 }
      else refused .backlog
    let outcome : Option State :=
      match r.state with
      | .frozen => some (refused .frozen)
      | .source => some (refused .sourceBusy)
      | .free | .building => some (refused .noVolume)
      | .deleting => some (refused .gone)
      | .active =>
          if r.size * 1024 < lba + n then some (refused .range)
          else if segs.any fun g => s.trimming v g.ext then some (refused .trimming)
          else match segs.find? fun g => s.blocked h v g.ext none with
            | some g => some (hold (.key v g.ext))
            | none =>
                if k ≠ 0 ∧ r.quota < r.allocated + k then some (refused .quota)
                else if k ≠ 0 ∧ tn.limit < tn.charged + tn.promised + k then some (refused .tenantLimit)
                else if s.poolFree - s.reserved < p then some (refused .noPage)
                else match picks with
                  | none => some (refused .noSpace)
                  | some (ks, _) =>
                      if shared.any fun g => !s.oldShelfOnline v g then some (refused .shelfDown)
                      else if w ≠ 0 ∧ 128 < s.cows.length + w then some (hold .cowRoom)
                      else if opening ≠ 0 ∧ 64 < s.revs.length + opening then some (hold .revokeRoom)
                      else if 16384 < s.grants.length + segs.countP fun g => (s.grantAt v g.ext).isNone then
                        some (hold .grantRoom)
                      else ((ks.drop k).find? fun j => 64 < (s.shelf j).orders.length + (ks.drop k).count j).map
                        fun j => hold (.orderRoom j)
    (1023 < v ∨ n = 0 ∨ 1024 < n → exec (.writeMap h t v lba n) s = .next (s.refused h t .badParam)) ∧
    (v ≤ 1023 → 1 ≤ n → n ≤ 1024 → ∀ u, outcome = some u → exec (.writeMap h t v lba n) s = .next u)

/-- R62, R68: a WRITE-MAP whose segments are all unshared is answered at its commit. Each segment on an ONLINE shelf is
DATA with the write flag and a WRITE record; one on another shelf is DOWN, its flag clear, and the requester's record is
READ unless it stood as it was. The map, the counts and the cursor stay. Only reclaim acts besides (R82), its notices
before the reply (R174, log entry 7). -/
def Obligations.WriteMapUnsharedGrantsWrite : Prop :=
  ∀ (h : Head) (t : Tag) (v lba n : Nat) (s : State), s.ready h t → v ≤ 1023 → 1 ≤ n → n ≤ 1024 →
    let segs := segments lba n
    let online (g : Seg) : Bool := match s.entry v g.ext with
      | .mapped k _ => decide ((s.shelf k).state = .online)
      | _ => false
    let seg (g : Seg) : Segment := match s.entry v g.ext with
      | .mapped k c =>
          ⟨if (s.shelf k).state = .online then .data else .down, k, c * 1024 + g.offset, g.length, online g⟩
      | _ => ⟨.hole, 0, 0, g.length, false⟩
    (s.volume v).state = .active → lba + n ≤ (s.volume v).size * 1024 →
    (∀ g ∈ segs, s.trimming v g.ext = false ∧ s.blocked h v g.ext none = false ∧
      ∃ k c, s.entry v g.ext = .mapped k c ∧ (s.shelf k).refs c ≤ 1) →
    s.grants.length + (segs.countP fun g => (s.grantAt v g.ext).isNone) ≤ 16384 →
    exec (.writeMap h t v lba n) s = .next
      ((segs.foldl (fun x g =>
          x.setHolder v g.ext h (if online g then .write else (x.holder v g.ext h).getD .read)) s).reclaimEnd.emit
        (.reply h t .ok (.segments (segs.map seg))))

/-- R45, R62, R63, R64, R35, R36, R38, R51, R85, R177: a WRITE-MAP on one UNMAPPED extent that passes its checks. The
picked shelf's free-list head becomes IN-USE, its due pool condition is evaluated on the free length left (the settle
timer stops, starts at 250 ms or runs on), the entry is MAPPED, the counts rise, the requester is recorded WRITE. With
no other holder the reply goes out at once, DATA with the write flag; with others an ALLOC record awaits them for 40 ms,
a REVOKE notice goes to each whose link is not DARK, and the reply waits for it. An upward crossing of the mark and a
tenant that reaches its limit each raise a VOLUME notice to every head. The notices leave before the reply: of those of
the commit and of reclaim no rule says otherwise (R174, log entry 7). That one notice's frames to several heads leave in
rising head number is the model's choice (log entry 31). -/
def Obligations.WriteMapFreshAllocates : Prop :=
  ∀ (h : Head) (t : Tag) (v lba n : Nat) (k : ShelfNo) (s : State), s.ready h t → v ≤ 1023 → 1 ≤ n →
    let e := lba / 1024
    let r := s.volume v
    let tn := s.tenant r.tenant
    let c := s.freeHead k
    let others := s.othersOf v e h
    let page := r.slotPresent e
    let crosses := r.mark ≠ 0 ∧ r.quota * r.mark ≤ (r.allocated + 1) * 100
    let due : PoolCond := match (s.shelf k).cond with
      | .normal => if (s.shelf k).freeList.length - 1 < (s.shelf k).lowMark then .low else .normal
      | .low =>
          if (s.shelf k).lowMark + (s.shelf k).lowMark / 8 ≤ (s.shelf k).freeList.length - 1 then .normal else .low
    let settle : Option Nat :=
      if due = (s.shelf k).cond then none else some ((s.shelf k).settle.getD (s.now + 250))
    let told0 : State := if others = [] then s else s.openTag h t
    let told1 : State := if crosses ∧ r.crossed = false then
      told0.notifyAll ⟨.volume, 1, v, r.allocated + 1, r.quota, 0⟩ else told0
    let told2 : State := if tn.charged + tn.promised + 1 = tn.limit then
      told1.notifyAll ⟨.volume, 2, r.tenant, tn.charged + 1, tn.promised, 0⟩ else told1
    let volume (x : Sent) : Bool := match x with
      | .notice _ n => n.cls = .volume
      | _ => false
    let revoke (x : Sent) : Bool := match x with
      | .notice _ n => n.cls = .revoke ∧ n.detail ≠ 6
      | _ => false
    lba % 1024 + n ≤ 1024 → r.state = .active → lba + n ≤ r.size * 1024 → s.trimming v e = false →
    s.blocked h v e none = false → s.entry v e = .unmapped → r.allocated + 1 ≤ r.quota →
    tn.charged + tn.promised + 1 ≤ tn.limit → (page = false → 1 ≤ s.poolFree - s.reserved) →
    s.pickShelf r.mask r.cursor [] true = some k → (others ≠ [] → s.revs.length + 1 ≤ 64) →
    s.grants.length + (if (s.grantAt v e).isNone then 1 else 0) ≤ 16384 →
    ∃ (u : State) (ns : List Sent), exec (.writeMap h t v lba n) s = .next u ∧ u.sent = s.sent ++ ns ∧
      u.entry v e = .mapped k c ∧ (∀ v' e', (v', e') ≠ (v, e) → u.entry v' e' = s.entry v' e') ∧
      (u.volume v).allocated = r.allocated + 1 ∧ (u.volume v).cursor = k + 1 ∧
      (u.volume v).pageCount = r.pageCount + (if page then 0 else 1) ∧
      u.poolFree = s.poolFree - (if page then 0 else 1) ∧ u.reserved = s.reserved ∧
      (∀ v', v' ≠ v → u.volume v' = s.volume v') ∧
      u.tenant r.tenant = { tn with charged := tn.charged + 1 } ∧
      (u.shelf k).freeList = (s.shelf k).freeList.tail ∧ (u.shelf k).pet = (s.shelf k).pet.set c ⟨.inUse, 1⟩ ∧
      (u.shelf k).cond = (s.shelf k).cond ∧ (u.shelf k).settle = settle ∧
      (∀ k', k' ≠ k → u.shelf k' = s.shelf k') ∧
      u.holder v e h = some .write ∧ (∀ h', h' ≠ h → u.holder v e h' = s.holder v e h') ∧
      u.held = s.held ∧ u.jobs = s.jobs ∧ u.cows = s.cows ∧ u.families = s.families ∧
      (u.volume v).crossed = decide crosses ∧ u.heads = told2.heads ∧ told2.sent = s.sent ++ ns.filter volume ∧
      (ns.filter revoke = (others.filter fun k => (s.head k).link ≠ .dark).map fun k =>
        .notice k ⟨.revoke, 1, v, e, 0, 0⟩) ∧
      (others = [] →
        ns.getLast? = some (.reply h t .ok (.segments [⟨.data, k, c * 1024 + lba % 1024, n, true⟩])) ∧
        u.replies = s.replies) ∧
      (others ≠ [] →
        u.revAt v e = some ⟨v, e, .alloc, others, s.now + 40, .reply s.replySeq⟩ ∧
        u.replies = s.replies ++
          [⟨s.replySeq, ⟨h, t, false, false⟩, v, [⟨.fresh, e, lba % 1024, n, true⟩], 1, false⟩] ∧
        ∀ x ∈ ns, x.isReply = false)

/-- R104, R45, R62, R64, R35, R36, R85: a WRITE-MAP on one shared extent that passes its checks starts a COW: the
record, the new extent, with the due pool condition of its shelf evaluated on the free length left, the PENDING entry,
the COPY order, the revocation of the other holders with a REVOKE notice to each whose link is not DARK, and a reply
that waits. No count changes. That the record is the lowest-numbered free one (log entry 5) and that the notices leave
in rising head number (log entry 31) are the model's choices. -/
def Obligations.WriteMapSharedStartsCow : Prop :=
  ∀ (h : Head) (t : Tag) (v lba n : Nat) (k ko : ShelfNo) (co : Nat) (s : State), s.ready h t → v ≤ 1023 → 1 ≤ n →
    let e := lba / 1024
    let r := s.volume v
    let c := s.freeHead k
    let m := s.freeCow
    let others := s.othersOf v e h
    let revoke (x : Sent) : Bool := match x with
      | .notice _ n => n.cls = .revoke ∧ n.detail ≠ 6
      | _ => false
    let due : PoolCond := match (s.shelf k).cond with
      | .normal => if (s.shelf k).freeList.length - 1 < (s.shelf k).lowMark then .low else .normal
      | .low =>
          if (s.shelf k).lowMark + (s.shelf k).lowMark / 8 ≤ (s.shelf k).freeList.length - 1 then .normal else .low
    let settle : Option Nat :=
      if due = (s.shelf k).cond then none else some ((s.shelf k).settle.getD (s.now + 250))
    lba % 1024 + n ≤ 1024 → r.state = .active → lba + n ≤ r.size * 1024 → s.trimming v e = false →
    s.blocked h v e none = false → s.entry v e = .mapped ko co → 1 < (s.shelf ko).refs co →
    (s.shelf ko).state = .online → s.pickShelf r.mask r.cursor [] false = some k → s.cows.length + 1 ≤ 128 →
    (others ≠ [] → s.revs.length + 1 ≤ 64) →
    s.grants.length + (if (s.grantAt v e).isNone then 1 else 0) ≤ 16384 → (s.shelf k).orders.length + 1 ≤ 64 →
    (∀ x ∈ s.held, x.reason ≠ .orderRoom k) →
    ∃ (u : State) (ns : List Sent), exec (.writeMap h t v lba n) s = .next u ∧ u.sent = s.sent ++ ns ∧
      u.entry v e = .pending ko co m ∧ (∀ v' e', (v', e') ≠ (v, e) → u.entry v' e' = s.entry v' e') ∧
      u.cow m = some
        { vol := v, ext := e, oldShelf := ko, oldSlot := co, newShelf := k, newSlot := c, copied := false,
          clear := others.isEmpty, attempt := 1, head := h, tag := t, reply := s.replySeq, seg := 0 } ∧
      (u.volume v).allocated = r.allocated ∧ (u.volume v).cursor = k + 1 ∧ (u.volume v).pageCount = r.pageCount ∧
      u.tenants = s.tenants ∧ u.poolFree = s.poolFree ∧ u.reserved = s.reserved ∧
      (u.shelf k).freeList = (s.shelf k).freeList.tail ∧
      (u.shelf k).cond = (s.shelf k).cond ∧ (u.shelf k).settle = settle ∧
      (Order.copy ko co c m ∈ (u.shelf k).orders ∨ ∃ f ∈ (u.shelf k).inFlight, f.order = .copy ko co c m) ∧
      u.holder v e h = some ((s.holder v e h).getD .read) ∧ (∀ h', h' ≠ h → u.holder v e h' = s.holder v e h') ∧
      u.replies = s.replies ++
        [⟨s.replySeq, ⟨h, t, false, false⟩, v, [⟨.shared, e, lba % 1024, n, false⟩], 1, false⟩] ∧
      u.heads = (s.openTag h t).heads ∧
      (others ≠ [] → u.revAt v e = some ⟨v, e, .cow, others, s.now + 40, .cow m⟩) ∧
      (ns.filter revoke = (others.filter fun k => (s.head k).link ≠ .dark).map fun k =>
        .notice k ⟨.revoke, 2, v, e, 0, 0⟩) ∧
      ∀ x ∈ ns, x.isReply = false

/-- R35, R36, R40, R45, R62, R63, R64, R68, R104: the commit of a WRITE-MAP that spans two extents, at least one of them
not unshared. The fresh picks come before the COW picks, each sees those before it, and each takes the first slot they
left on its shelf's free list; the due pool condition of each picked shelf is evaluated on the free length left, and the
cursor is the one the last pick left. A fresh extent is MAPPED and counted, and the requester is recorded WRITE. A
shared one is PENDING under a COW record of its own, which serves its segment of the one reply. An unshared one stays as
it is, with WRITE for the requester where its shelf is ONLINE. The reply waits for each ALLOC record opened and for each
COW started; with no wait it is the last frame of the event, after the notices of the commit and of reclaim (R174, log
entry 7). That the first COW record is the lowest-numbered free one is the model's choice (log entry 5). -/
def Obligations.WriteMapTwoSegmentsCommit : Prop :=
  ∀ (h : Head) (t : Tag) (v lba n : Nat) (k0 k1 cur : ShelfNo) (s : State), s.ready h t → v ≤ 1023 → n ≤ 1024 →
    let e := lba / 1024
    let o := lba % 1024
    let r := s.volume v
    let tn := s.tenant r.tenant
    let c0 := s.freeHead k0
    let c1 := if k1 = k0 then (s.shelf k0).freeList.getD 1 0 else s.freeHead k1
    let picked (kinds : List Bool) : Prop := s.pickAll r.mask r.cursor [] kinds = some ([k0, k1], cur)
    let picked1 (fresh : Bool) : Prop := s.pickAll r.mask r.cursor [] [fresh] = some ([k0], cur)
    let pages (xs : List Nat) : Nat := ((xs.filter fun x => !r.slotPresent x).map fun x => x / 256).dedup.length
    let shared (x : Nat) (ko : ShelfNo) (co : Nat) : Prop :=
      s.entry v x = .mapped ko co ∧ 1 < (s.shelf ko).refs co ∧ (s.shelf ko).state = .online
    let unshared (x : Nat) (ko : ShelfNo) (co : Nat) : Prop := s.entry v x = .mapped ko co ∧ (s.shelf ko).refs co ≤ 1
    let online (ko : ShelfNo) : Bool := (s.shelf ko).state = .online
    let opening := [e, e + 1].countP fun x => s.segKind v x ≠ .unshared ∧ s.othersOf v x h ≠ []
    let awaited (u : State) (x : Nat) (reason : RevReason) (party : RevParty) : Prop :=
      s.othersOf v x h ≠ [] → u.revAt v x = some ⟨v, x, reason, s.othersOf v x h, s.now + 40, party⟩
    let ordered (u : State) (k : ShelfNo) (order : Order) : Prop :=
      order ∈ (u.shelf k).orders ∨ ∃ f ∈ (u.shelf k).inFlight, f.order = order
    let cow (x : Nat) (ko : ShelfNo) (co : Nat) (k : ShelfNo) (c seg : Nat) : Cow :=
      { vol := v, ext := x, oldShelf := ko, oldSlot := co, newShelf := k, newSlot := c, copied := false,
        clear := (s.othersOf v x h).isEmpty, attempt := 1, head := h, tag := t, reply := s.replySeq, seg := seg }
    let waiting (a b : SegKind × Bool) (waits : Nat) : ReplyRec :=
      ⟨s.replySeq, ⟨h, t, false, false⟩, v,
        [⟨a.1, e, o, 1024 - o, a.2⟩, ⟨b.1, e + 1, 0, o + n - 1024, b.2⟩], waits, false⟩
    let due (ks : List ShelfNo) (j : ShelfNo) : PoolCond :=
      let free := (s.shelf j).freeList.length - ks.count j
      match (s.shelf j).cond with
        | .normal => if free < (s.shelf j).lowMark then .low else .normal
        | .low => if (s.shelf j).lowMark + (s.shelf j).lowMark / 8 ≤ free then .normal else .low
    let settle (ks : List ShelfNo) (j : ShelfNo) : Option Nat :=
      if j ∉ ks then (s.shelf j).settle
      else if due ks j = (s.shelf j).cond then none else some ((s.shelf j).settle.getD (s.now + 250))
    let kept (u : State) (ks : List ShelfNo) (fresh pages : Nat) : Prop :=
      (∀ v' x, (v', x) ≠ (v, e) → (v', x) ≠ (v, e + 1) → u.entry v' x = s.entry v' x) ∧
      (∀ v', v' ≠ v → u.volume v' = s.volume v') ∧ (u.volume v).cursor = cur ∧
      (u.volume v).allocated = r.allocated + fresh ∧ (u.volume v).pageCount = r.pageCount + pages ∧
      u.tenant r.tenant = { tn with charged := tn.charged + fresh } ∧ u.poolFree = s.poolFree - pages ∧
      u.reserved = s.reserved ∧ (∀ j, (u.shelf j).freeList = (s.shelf j).freeList.drop (ks.count j)) ∧
      (∀ j, (u.shelf j).cond = (s.shelf j).cond ∧ (u.shelf j).settle = settle ks j) ∧
      (∀ v' x j, j ≠ h ∨ v' ≠ v ∨ (x ≠ e ∧ x ≠ e + 1) → u.holder v' x j = s.holder v' x j) ∧
      u.held = s.held ∧ u.jobs = s.jobs ∧ u.families = s.families
    let silent (u : State) : Prop := ∃ ns, u.sent = s.sent ++ ns ∧ ∀ x ∈ ns, x.isReply = false
    1024 < o + n → r.state = .active → lba + n ≤ r.size * 1024 →
    (∀ x ∈ [e, e + 1], s.trimming v x = false ∧ s.blocked h v x none = false) →
    (opening ≠ 0 → s.revs.length + opening ≤ 64) →
    s.grants.length + ([e, e + 1].countP fun x => (s.grantAt v x).isNone) ≤ 16384 →
    (picked [true, true] → s.entry v e = .unmapped → s.entry v (e + 1) = .unmapped → r.allocated + 2 ≤ r.quota →
      tn.charged + tn.promised + 2 ≤ tn.limit → pages [e, e + 1] ≤ s.poolFree - s.reserved →
      let waits := (if s.othersOf v e h = [] then 0 else 1) + (if s.othersOf v (e + 1) h = [] then 0 else 1)
      ∃ u : State, exec (.writeMap h t v lba n) s = .next u ∧ kept u [k0, k1] 2 (pages [e, e + 1]) ∧ u.cows = s.cows ∧
        u.entry v e = .mapped k0 c0 ∧ u.entry v (e + 1) = .mapped k1 c1 ∧
        (∀ j, (u.shelf j).pet = ([(k0, c0), (k1, c1)].filter fun q => q.1 = j).foldl
          (fun p q => p.set q.2 ⟨.inUse, 1⟩) (s.shelf j).pet) ∧
        u.holder v e h = some .write ∧ u.holder v (e + 1) h = some .write ∧
        awaited u e .alloc (.reply s.replySeq) ∧ awaited u (e + 1) .alloc (.reply s.replySeq) ∧
        (waits = 0 → u.replies = s.replies ∧ u.sent.getLast? = some (.reply h t .ok (.segments
          [⟨.data, k0, c0 * 1024 + o, 1024 - o, true⟩, ⟨.data, k1, c1 * 1024, o + n - 1024, true⟩]))) ∧
        (waits ≠ 0 → u.replies = s.replies ++ [waiting (.fresh, true) (.fresh, true) waits] ∧ silent u)) ∧
    (∀ (x y i : Nat) (ko : ShelfNo) (co : Nat), (x = e ∧ y = e + 1 ∧ i = 1) ∨ (x = e + 1 ∧ y = e ∧ i = 0) →
      picked [true, false] → s.entry v x = .unmapped → shared y ko co → r.allocated + 1 ≤ r.quota →
      tn.charged + tn.promised + 1 ≤ tn.limit → pages [x] ≤ s.poolFree - s.reserved → s.cows.length + 1 ≤ 128 →
      (s.shelf k1).orders.length + 1 ≤ 64 → (∀ z ∈ s.held, z.reason ≠ .orderRoom k1) →
      let m := s.freeCow
      ∃ u : State, exec (.writeMap h t v lba n) s = .next u ∧ kept u [k0, k1] 1 (pages [x]) ∧ silent u ∧
        u.entry v x = .mapped k0 c0 ∧ u.entry v y = .pending ko co m ∧ u.cow m = some (cow y ko co k1 c1 i) ∧
        ordered u k1 (.copy ko co c1 m) ∧ u.holder v x h = some .write ∧
        u.holder v y h = some ((s.holder v y h).getD .read) ∧ awaited u x .alloc (.reply s.replySeq) ∧
        awaited u y .cow (.cow m) ∧ u.replies = s.replies ++ [waiting
          (if i = 1 then (.fresh, true) else (.shared, false)) (if i = 1 then (.shared, false) else (.fresh, true))
          (if s.othersOf v x h = [] then 1 else 2)]) ∧
    (∀ (ko ko' : ShelfNo) (co co' : Nat), picked [false, false] → shared e ko co → shared (e + 1) ko' co' →
      s.cows.length + 2 ≤ 128 → (∀ j ∈ [k0, k1], (s.shelf j).orders.length + [k0, k1].count j ≤ 64 ∧
        ∀ z ∈ s.held, z.reason ≠ .orderRoom j) →
      let m := s.freeCow
      ∃ (m' : Nat) (u : State), m' ≠ m ∧ s.cow m' = none ∧ exec (.writeMap h t v lba n) s = .next u ∧ kept u [k0, k1] 0 0 ∧
        silent u ∧ u.entry v e = .pending ko co m ∧ u.entry v (e + 1) = .pending ko' co' m' ∧
        u.cow m = some (cow e ko co k0 c0 0) ∧ u.cow m' = some (cow (e + 1) ko' co' k1 c1 1) ∧
        ordered u k0 (.copy ko co c0 m) ∧ ordered u k1 (.copy ko' co' c1 m') ∧
        u.holder v e h = some ((s.holder v e h).getD .read) ∧
        u.holder v (e + 1) h = some ((s.holder v (e + 1) h).getD .read) ∧ awaited u e .cow (.cow m) ∧
        awaited u (e + 1) .cow (.cow m') ∧ u.replies = s.replies ++ [waiting (.shared, false) (.shared, false) 2]) ∧
    (∀ (x y i : Nat) (ko : ShelfNo) (co : Nat), (x = e ∧ y = e + 1 ∧ i = 1) ∨ (x = e + 1 ∧ y = e ∧ i = 0) →
      picked1 true → s.entry v x = .unmapped → unshared y ko co → r.allocated + 1 ≤ r.quota →
      tn.charged + tn.promised + 1 ≤ tn.limit → pages [x] ≤ s.poolFree - s.reserved →
      let seg (off len : Nat) : Segment := ⟨if online ko then .data else .down, ko, co * 1024 + off, len, online ko⟩
      ∃ u : State, exec (.writeMap h t v lba n) s = .next u ∧ kept u [k0] 1 (pages [x]) ∧ u.cows = s.cows ∧
        u.entry v x = .mapped k0 c0 ∧ u.entry v y = .mapped ko co ∧ u.holder v x h = some .write ∧
        u.holder v y h = some (if online ko then .write else (s.holder v y h).getD .read) ∧
        awaited u x .alloc (.reply s.replySeq) ∧
        (s.othersOf v x h = [] → u.replies = s.replies ∧ u.sent.getLast? = some (.reply h t .ok (.segments
          (if i = 1 then [⟨.data, k0, c0 * 1024 + o, 1024 - o, true⟩, seg 0 (o + n - 1024)]
            else [seg o (1024 - o), ⟨.data, k0, c0 * 1024, o + n - 1024, true⟩])))) ∧
        (s.othersOf v x h ≠ [] → u.replies = s.replies ++ [waiting
          (if i = 1 then (.fresh, true) else (.unshared, online ko))
          (if i = 1 then (.unshared, online ko) else (.fresh, true)) 1] ∧ silent u)) ∧
    (∀ (x y i : Nat) (ko ku : ShelfNo) (co cu : Nat), (x = e ∧ y = e + 1 ∧ i = 0) ∨ (x = e + 1 ∧ y = e ∧ i = 1) →
      picked1 false → shared x ko co → unshared y ku cu → s.cows.length + 1 ≤ 128 →
      (s.shelf k0).orders.length + 1 ≤ 64 → (∀ z ∈ s.held, z.reason ≠ .orderRoom k0) →
      let m := s.freeCow
      ∃ u : State, exec (.writeMap h t v lba n) s = .next u ∧ kept u [k0] 0 0 ∧ silent u ∧
        u.entry v x = .pending ko co m ∧ u.entry v y = .mapped ku cu ∧ u.cow m = some (cow x ko co k0 c0 i) ∧
        ordered u k0 (.copy ko co c0 m) ∧ u.holder v x h = some ((s.holder v x h).getD .read) ∧
        u.holder v y h = some (if online ku then .write else (s.holder v y h).getD .read) ∧
        awaited u x .cow (.cow m) ∧ u.replies = s.replies ++ [waiting
          (if i = 0 then (.shared, false) else (.unshared, online ku))
          (if i = 0 then (.unshared, online ku) else (.shared, false)) 1])

/-- R70, R87, R88: GRANT-DROP, where no open record awaits the requester and nothing waits for a grant entry: the
requester's record on the key goes, every other record stays, an entry left with no holder is freed, and the answer is
OK whatever stood. A head that an open record awaits gives its translation back with GRANT-DROP exactly as with
REVOKE-ACK: its holder record goes, it leaves the awaited set, the answer is OK, and the record waits on for the others.
Only reclaim acts besides (R82), its notices before the reply (R174, log entry 7). REVOKE-ACK of a head that no open
record on the key awaits is STALE and changes nothing. -/
def Obligations.GrantGivenBackOrStale : Prop :=
  (∀ (h : Head) (t : Tag) (v e : Nat) (s : State), s.ready h t →
    let drop (g : Grant) : Grant := { g with holders := g.holders.set h none }
    (1023 < v ∨ 1048575 < e → exec (.grantDrop h t v e) s = .next (s.refused h t .badParam)) ∧
    (v ≤ 1023 → e ≤ 1048575 → (∀ r ∈ s.revs, r.vol = v → r.ext = e → h ∉ r.awaited) →
      (∀ x ∈ s.held, x.reason ≠ .grantRoom) →
      exec (.grantDrop h t v e) s = .next ((State.reclaimEnd
        { s with grants := s.grants.flatMap fun g =>
            if g.vol = v ∧ g.ext = e then (if ∀ k : Head, (drop g).holders[k] = none then [] else [drop g])
            else [g] }).replied h t .ok []))) ∧
  (∀ (h : Head) (t : Tag) (v e : Nat) (r : Rev) (s : State), s.ready h t → v ≤ 1023 → e ≤ 1048575 →
    s.revAt v e = some r → h ∈ r.awaited →
    exec (.grantDrop h t v e) s = exec (.revokeAck h t v e) s ∧
    (let drop (g : Grant) : Grant := { g with holders := g.holders.set h none }
      let others := r.awaited.filter fun k => k ≠ h
      others ≠ [] → (∀ x ∈ s.held, x.reason ≠ .grantRoom) →
      exec (.revokeAck h t v e) s = .next ((State.reclaimEnd
        { s with
          grants := s.grants.flatMap fun g =>
            if g.vol = v ∧ g.ext = e then (if ∀ k : Head, (drop g).holders[k] = none then [] else [drop g]) else [g]
          revs := s.revs.map fun x =>
            if x.vol = v ∧ x.ext = e then { r with awaited := others } else x }).replied h t .ok []))) ∧
  (∀ (h : Head) (t : Tag) (v e : Nat) (s : State), s.ready h t → (∀ r ∈ s.revs, r.vol = v → r.ext = e → h ∉ r.awaited) →
    exec (.revokeAck h t v e) s = .next (s.refused h t (if 1023 < v ∨ 1048575 < e then .badParam else .stale)))

/-- R88, R89, R65, R69, R81: REVOKE-ACK of the last head that an ALLOC record awaits. The head's record on the key goes,
the revocation record is freed, and the requester whose last wait this was is answered OK, FENCED if its request took
the fenced mark, and not at all if its link went DARK. Every other revocation record and every other reply record stays
as it is. The acknowledgement's reply leaves first (R88, R89), reclaim's notices last (R86, R89; log entry 7). It is
stated for a quiet part with no job; only reclaim acts besides (R82). -/
def Obligations.RevokeAckClosesAllocation : Prop :=
  ∀ (h w : Head) (t wt : Tag) (fenced detached : Bool) (v e o n x id : Nat) (k : ShelfNo) (c : Nat) (s : State),
    s.ready h t → v ≤ 1023 → e ≤ 1048575 → s.quiet → s.jobs = [] → h ≠ w →
    s.revAt v e = some ⟨v, e, .alloc, [h], x, .reply id⟩ →
    let who : Waiter := ⟨w, wt, fenced, detached⟩
    s.replyRec id = some ⟨id, who, v, [⟨.fresh, e, o, n, true⟩], 1, false⟩ →
    s.entry v e = .mapped k c → (s.shelf k).state = .online →
    let drop (g : Grant) : Grant := { g with holders := g.holders.set h none }
    ∃ u : State, exec (.revokeAck h t v e) s = .next u ∧
      u.grants = (s.grants.flatMap fun g =>
        if g.vol = v ∧ g.ext = e then (if ∀ j : Head, (drop g).holders[j] = none then [] else [drop g]) else [g]) ∧
      (∃ rs, u.revs = (s.revs.filter fun r => ¬(r.vol = v ∧ r.ext = e)) ++ rs ∧ ∀ r ∈ rs, r.reason = .reclaim) ∧
      u.replies = (s.replies.filter fun r => r.id ≠ id) ∧ (u.head h).tags = (s.head h).tags ∧
      (u.head w).tags = (if detached then (s.head w).tags else (s.head w).tags.erase wt) ∧
      u.volumes = s.volumes ∧ u.shelves = s.shelves ∧ u.tenants = s.tenants ∧
      ∃ ns, u.sent = s.sent ++ [.reply h t .ok (.words [])] ++
          who.told .ok (.segments [⟨.data, k, c * 1024 + o, n, true⟩]) ++ ns ∧
        ∀ y ∈ ns, ∃ j m, y = .notice j m ∧ m.cls = .revoke

/-- R85, R82: the opening of a revocation record, and reclaim at the end of an event. A record is opened with its
reason, its awaited heads and a window of 40 ms, and one REVOKE notice with the reason, the volume and the extent index
goes to each awaited head whose link is not DARK; none is opened with nobody to await. Reclaim becomes ACTIVE below 256
free grant entries and INACTIVE at 512. While ACTIVE it opens RECLAIM records, awaiting every holder, on the entries
without an open record, the least recently used first, up to 8 open RECLAIM records and while a record is free. That the
notices of one record leave in rising head number is the model's choice (log entry 31). -/
def Obligations.RevocationRecordsOpen : Prop :=
  (∀ (v e : Nat) (reason : RevReason) (awaited : List Head) (party : RevParty) (s : State),
    let code : Nat := match reason with
      | .alloc => 1
      | .cow => 2
      | .trim => 3
      | .delete => 4
      | .downgrade => 5
      | .reclaim => 6
    s.openRev v e reason awaited party =
      if awaited = [] then s
      else { s with
        revs := s.revs ++ [⟨v, e, reason, awaited, s.now + 40, party⟩]
        sent := s.sent ++ (awaited.filter fun k => (s.head k).link ≠ .dark).map fun k =>
          .notice k ⟨.revoke, code, v, e, 0, 0⟩ }) ∧
  (∀ s : State,
    let free := 16384 - s.grants.length
    let active : Bool := if s.reclaim then decide (free < 512) else decide (free < 256)
    let heads (g : Grant) : List Head := [0, 1, 2, 3].filter fun k : Head => g.holders[k] ≠ none
    let room := min (8 - (s.revs.filter fun r => r.reason = .reclaim).length) (64 - s.revs.length)
    let opened := (s.grants.filter fun g => s.revAt g.vol g.ext = none).take room
    (active = false → s.reclaimEnd = { s with reclaim := false }) ∧
    (active = true → (s.grants.map fun g => (g.vol, g.ext)).Nodup →
      (∀ g ∈ s.grants, ∃ k : Head, g.holders[k] ≠ none) →
      s.reclaimEnd = { s with
        reclaim := true
        revs := s.revs ++ opened.map fun g => ⟨g.vol, g.ext, .reclaim, heads g, s.now + 40, .reclaim⟩
        sent := s.sent ++ opened.flatMap fun g => ((heads g).filter fun k => (s.head k).link ≠ .dark).map fun k =>
          .notice k ⟨.revoke, 6, g.vol, g.ext, 0, 0⟩ }))

/-- R73, R74, R75, R88, R89: the acknowledgement that closes a RECLAIM record releases its key. Two READ-MAPs held for
that key are answered in the same event, in arrival order, each with its holder record and its segment, also when the
later was held behind the earlier of its own head; the other entries keep their places. A READ-MAP that then meets a
record open on its second key keeps its place and its number, and is held for that key. The acknowledgement's reply
leaves first and reclaim's notices last (R86; log entry 7). It is stated for a part with no pass and no job. -/
def Obligations.ReleasedRequestsReexamined : Prop :=
  ∀ (h : Head) (t : Tag) (v e x : Nat) (s : State), s.ready h t → v ≤ 1023 → e ≤ 1048575 → s.passes = [] →
    s.jobs = [] → s.revAt v e = some ⟨v, e, .reclaim, [h], x, .reclaim⟩ →
    (s.volume v).state = .active ∨ (s.volume v).state = .frozen ∨ (s.volume v).state = .source →
    (∀ k c m, s.entry v e ≠ .pending k c m) →
    let drop (g : Grant) : Grant := { g with holders := g.holders.set h none }
    let acked : State := State.replied { s with
      grants := s.grants.flatMap fun g =>
        if g.vol = v ∧ g.ext = e then (if ∀ j : Head, (drop g).holders[j] = none then [] else [drop g]) else [g]
      revs := s.revs.filter fun r => !(r.vol = v && r.ext = e) } h t .ok []
    let seg (lba n : Nat) : Segment := match s.entry v e with
      | .unmapped => ⟨.hole, 0, 0, n, false⟩
      | .mapped k c | .pending k c _ =>
          ⟨if (s.shelf k).state = .online then .data else .down, k, c * 1024 + lba % 1024, n, false⟩
    let answered (a : Head) (ta : Tag) (lba n : Nat) (z : State) : State :=
      (z.setHolder v e a ((z.holder v e a).getD .read)).reply a ta .ok (.segments [seg lba n])
    let inside (lba n : Nat) : Prop := lba / 1024 = e ∧ 1 ≤ n ∧ lba % 1024 + n ≤ 1024
    let unreleased (y : Held) : Prop := y.reason ≠ .key v e ∧ y.reason ≠ .revokeRoom ∧ y.reason ≠ .grantRoom
    (∀ (a b : Head) (ta tb : Tag) (la na lb nb qa qb : Nat) (rest : List Held),
      s.held = ⟨a, ta, .readMap v la na, .key v e, qa⟩ :: ⟨b, tb, .readMap v lb nb, .key v e, qb⟩ :: rest →
      qa < qb → (∀ y ∈ rest, qb < y.seq ∧ unreleased y) → inside la na → inside lb nb → s.grants.length < 16384 →
      exec (.revokeAck h t v e) s = .next
        (answered b tb lb nb (answered a ta la na { acked with held := rest })).reclaimEnd) ∧
    (∀ (a : Head) (ta : Tag) (lba n q : Nat) (before after : List Held),
      s.held = before ++ ⟨a, ta, .readMap v lba n, .key v e, q⟩ :: after →
      (∀ y ∈ before ++ after, y.head ≠ a ∧ y.seq ≠ q ∧ unreleased y) → lba / 1024 = e → n ≤ 1024 →
      1024 < lba % 1024 + n → s.revAt v (e + 1) ≠ none →
      exec (.revokeAck h t v e) s = .next (State.reclaimEnd
        { acked with held := before ++ ⟨a, ta, .readMap v lba n, .key v (e + 1), q⟩ :: after }))

/-- R99, R160, R92 stage 3, R167: requesters that wait for work in progress are answered as their marks say when it
ends: FENCED with the fenced mark, not at all when their link went DARK, else OK. Stated for the last DOWNGRADE record
of a FREEZE pass, which ends the pass and answers its VOL-FREEZE; and for the record that a TRIM's step waits for, with
a pause pending: the entry is unmapped, and the JOB-PAUSE is told OK with the job PAUSED, or NOT-RUNNING when the job
has ended. The acknowledgement's reply leaves first, and reclaim's notices last (R88, R86; log entry 7). That the step
that unmaps also moves the cursor past absent slots and ends the job, in the same event, is read from R151 and R156 (log
entry 16). -/
def Obligations.WaitersAnsweredByMarks : Prop :=
  ∀ (h w : Head) (t wt : Tag) (fenced detached : Bool) (v e x : Nat) (s : State), s.ready h t → v ≤ 1023 →
    e ≤ 1048575 → s.held = [] →
    let who : Waiter := ⟨w, wt, fenced, detached⟩
    let ack : Sent := .reply h t .ok (.words [])
    (∀ q : Nat, s.revAt v e = some ⟨v, e, .downgrade, [h], x, .pass q⟩ → s.jobs = [] →
      s.passes = [⟨q, v, .freeze who, [], 1, none⟩] → s.cowOn v = false →
      (∀ g ∈ s.grants, g.vol = v → g.ext = e → ∀ k : Head, k ≠ h → g.holders[k] ≠ some .write) →
      ∃ (u : State) (ns : List Sent), exec (.revokeAck h t v e) s = .next u ∧ u.passes = [] ∧
        u.volumes = s.volumes ∧ u.shelves = s.shelves ∧ u.held = [] ∧
        (∀ r ∈ u.revs, r.reason = .reclaim ∨ (r ∈ s.revs ∧ (r.vol, r.ext) ≠ (v, e))) ∧
        (u.head w).tags = (if detached then (s.head w).tags else (s.head w).tags.erase wt) ∧
        u.sent = s.sent ++ [ack] ++ who.told .ok (.words []) ++ ns ∧
        ∀ y ∈ ns, ∃ j m, y = .notice j m ∧ m.cls = .revoke) ∧
    (∀ (k : ShelfNo) (slot first count : Nat) (j : Job) (rest : List Job),
      s.revAt v e = some ⟨v, e, .trim, [h], x, .job⟩ → s.passes = [] → s.jobs = j :: rest →
      j.work = .trim v first count → j.state = .running → j.cursor = e → e < j.endIdx →
      s.jobWait = .revocation v e → s.pause = some who → s.entry v e = .mapped k slot →
      (∀ g ∈ s.grants, g.vol = v → g.ext = e → ∀ i : Head, i ≠ h → g.holders[i] = none) →
      ∃ (u : State) (ns : List Sent), exec (.revokeAck h t v e) s = .next u ∧ u.sent = s.sent ++ ns ∧
        u.entry v e = .unmapped ∧ u.pause = none ∧ u.jobWait = .none ∧
        let next := (u.volume v).nextPresent (e + 1) j.endIdx
        (next < j.endIdx →
          u.jobs = { j with cursor := next, processed := j.processed + 1, state := .paused } :: rest ∧
          ns.filter Sent.isReply = ack :: who.told .ok (.words [])) ∧
        (j.endIdx ≤ next → u.jobs.map Job.number = rest.map Job.number ∧
          ns.filter Sent.isReply = ack :: who.told .notRunning (.words [])))

/-! ### Shelf requests -/

/-- R21: SHELF-JOIN, its checks in order, its clamps and its acceptance. On a shelf without orders the LABEL-WRITE goes
out at once with the lowest tag and the next serial, and its 500 ms timer starts; the request is not answered and its
tag stays outstanding. That the level of a JOINING shelf is its base is the model's choice (log entry 13). -/
def Obligations.ShelfJoinWritesLabel : Prop :=
  ∀ (h : Head) (t : Tag) (n cap label low reserve base : Nat) (pz : Bool) (s : State), s.ready h t →
    let c : Instr := .shelfJoin h t n cap label low reserve base pz
    let m := if cap - 1 < low then cap - 1 else low
    let r := if m < reserve then m else reserve
    let b := if 7 < base then 7 else base
    (7 < n → exec c s = .next (s.refused h t .badParam)) ∧
    (∀ k : ShelfNo, n = k.val →
      let sh := s.shelf k
      (¬(16 ≤ cap ∧ cap ≤ 65536) → exec c s = .next (s.refused h t .badParam)) ∧
      (16 ≤ cap → cap ≤ 65536 → sh.state ≠ .absent → exec c s = .next (s.refused h t .exists_)) ∧
      (16 ≤ cap → cap ≤ 65536 → sh.state = .absent → sh.linkUp = false →
        exec c s = .next (s.refused h t .shelfDown)) ∧
      (16 ≤ cap → cap ≤ 65536 → sh.state = .absent → sh.linkUp = true → sh.orders = [] → sh.inFlight = [] →
        (∀ x ∈ s.held, x.reason ≠ .orderRoom k) →
        let order := Order.labelWrite (cap - 1) label
        exec c s = .next (State.reclaimEnd (State.emit
          ((s.openTag h t).setShelf k { sh with
            state := .joining, capacity := cap, label := label, lowMark := m, reserve := r, baseLevel := b,
            cond := .normal, level := b, fgCount := 0, join := some ⟨⟨h, t, false, false⟩, pz⟩,
            inFlight := [⟨0, sh.serial, order, s.now + 500⟩], serial := (sh.serial + 1) % 65536 })
          (.order k 0 sh.serial order)))))

/-- R28, R36: SHELF-TUNE writes the clamped settings and raises a level below the new base; it is refused on an ABSENT
and on a JOINING shelf. An ONLINE shelf that is now due another condition starts its 250 ms timer. A level that is
raised, where no order waits and nothing is to be scrubbed, lets only reclaim act besides (R82), its notices before the
reply (R174, log entry 7). The result words, for which R28 gives no order, are the low mark, the reserve and the base
level (log entry 14). -/
def Obligations.ShelfTuneWritesSettings : Prop :=
  ∀ (h : Head) (t : Tag) (n low reserve base : Nat) (s : State), s.ready h t →
    let c : Instr := .shelfTune h t n low reserve base
    (7 < n → exec c s = .next (s.refused h t .badParam)) ∧
    (∀ k : ShelfNo, n = k.val →
      let sh := s.shelf k
      let m := if sh.capacity - 1 < low then sh.capacity - 1 else low
      let r := if m < reserve then m else reserve
      let b := if 7 < base then 7 else base
      (sh.state = .absent → exec c s = .next (s.refused h t .noShelf)) ∧
      (sh.state = .joining → exec c s = .next (s.refused h t .shelfBusy)) ∧
      (sh.state ≠ .absent → sh.state ≠ .joining → ∃ u : State, exec c s = .next u ∧
        (u.shelf k).lowMark = m ∧ (u.shelf k).reserve = r ∧ (u.shelf k).baseLevel = b ∧
        (u.shelf k).level = (if sh.level < b then b else sh.level) ∧ (u.shelf k).state = sh.state ∧
        (u.shelf k).cond = sh.cond ∧ (u.shelf k).capacity = sh.capacity) ∧
      (sh.state ≠ .absent → sh.state ≠ .joining →
        let due : PoolCond := match sh.cond with
          | .normal => if sh.freeList.length < m then .low else .normal
          | .low => if m + m / 8 ≤ sh.freeList.length then .normal else .low
        let settle : Option Nat :=
          if sh.state = .online then (if due = sh.cond then none else some (sh.settle.getD (s.now + 250)))
          else sh.settle
        let tuned : Shelf := { sh with lowMark := m, reserve := r, baseLevel := b, settle := settle }
        (b ≤ sh.level → exec c s = .next ((s.setShelf k tuned).replied h t .ok [m, r, b])) ∧
        (sh.level < b → sh.orders = [] → sh.state ≠ .online ∨ sh.scrubQueue = [] →
          exec c s = .next ((s.setShelf k { tuned with level := b, fgCount := 0 }).reclaimEnd.replied h t .ok
            [m, r, b]))))

/-- R29: SHELF-PART, its refusals in order, and its acceptance: the ABSENT values of R20, every timer off, the timeout
count 0, and nothing else. -/
def Obligations.ShelfPartDiscardsTable : Prop :=
  ∀ (h : Head) (t : Tag) (n : Nat) (s : State), s.ready h t →
    (7 < n → exec (.shelfPart h t n) s = .next (s.refused h t .badParam)) ∧
    (∀ k : ShelfNo, n = k.val →
      let sh := s.shelf k
      let used := sh.pet.any fun p => p.state = .inUse ∨ p.state = .copyTarget
      exec (.shelfPart h t n) s = .next (
        if sh.state = .absent then s.refused h t .noShelf
        else if sh.state = .joining ∨ sh.inFlight ≠ [] ∨ sh.orders ≠ [] ∨ used = true then s.refused h t .shelfBusy
        else (s.setShelf k
          { state := .absent, capacity := 0, label := 0, lowMark := 0, reserve := 0, baseLevel := 0, cond := .normal,
            retired := 0, pet := [], freeList := [], scrubQueue := [], linkUp := sh.linkUp, timeouts := 0,
            reverify := none, settle := none, stepTimer := none, level := 0, orders := [], inFlight := [],
            serial := sh.serial, fgCount := 0, join := none }).replied h t .ok []))

/-! ### Shelf links and answers -/

/-- R23, R24, R25, R123, R33: a shelf link that is lost, and one that comes UP. At a loss the link is DOWN, no re-verify
timer runs, the state goes as the table of R23 says and every order of the shelf has failed; the slots that an ONLINE
shelf's ZERO and COPY orders held are back at the head of the scrub queue as one group in ascending order. The pool
condition stays, and so does the timeout count, which R20's ABSENT values do not name when a join fails (log entry 25).
R23 speaks of a link that goes DOWN: that SHELF_LINK_DOWN acts in the same way on a link that is DOWN already is the
model's choice (log entry 27). An OFFLINE or MISMATCH shelf whose link comes UP starts verification: any re-verify timer
stops, and the LABEL-READ for slot C−1 goes out at once. For any other shelf only the link state is recorded. -/
def Obligations.ShelfLinkActsByState : Prop :=
  (∀ (k : ShelfNo) (s : State), ∃ u : State, exec (.shelfLinkDown k) s = .next u ∧
    let sh := s.shelf k
    let slots := ((sh.inFlight.map InFlight.order ++ sh.orders).filterMap fun o => match o with
      | .zero c => some c
      | .copy _ _ d _ => some d
      | .labelRead _ | .labelWrite _ _ => none).insertionSort (· ≤ ·)
    (u.shelf k).linkUp = false ∧ (u.shelf k).reverify = none ∧ (u.shelf k).timeouts = sh.timeouts ∧
    (u.shelf k).state = (match sh.state with
      | .absent | .joining => .absent
      | .verifying | .mismatch | .online | .offline => .offline) ∧
    (sh.state ≠ .absent → sh.state ≠ .offline → (u.shelf k).orders = [] ∧ (u.shelf k).inFlight = []) ∧
    (sh.state = .online → slots ++ sh.scrubQueue <+: (u.shelf k).scrubQueue) ∧
    (sh.state = .online → s.jobs = [] → (u.shelf k).scrubQueue = slots ++ sh.scrubQueue ∧
      (u.shelf k).pet = slots.foldl (fun p c => p.set c ⟨.scrubWait, 0⟩) sh.pet) ∧
    (sh.state ≠ .joining → (u.shelf k).cond = sh.cond ∧ (u.shelf k).label = sh.label ∧
      (u.shelf k).capacity = sh.capacity ∧ (u.shelf k).level = sh.level) ∧
    (sh.state = .joining → (u.shelf k).capacity = 0 ∧ (u.shelf k).label = 0 ∧ (u.shelf k).level = 0) ∧
    (∀ j, j ≠ k → (u.shelf j).state = (s.shelf j).state ∧ (u.shelf j).linkUp = (s.shelf j).linkUp)) ∧
  (∀ (k : ShelfNo) (s : State),
    let sh := s.shelf k
    let order := Order.labelRead (sh.capacity - 1)
    sh.linkUp = false →
    (sh.state ≠ .offline → sh.state ≠ .mismatch →
      exec (.shelfLinkUp k) s = .next (s.setShelf k { sh with linkUp := true }).reclaimEnd) ∧
    (sh.state = .offline ∨ sh.state = .mismatch → sh.orders = [] → sh.inFlight = [] →
      (∀ x ∈ s.held, x.reason ≠ .orderRoom k) →
      exec (.shelfLinkUp k) s = .next (State.reclaimEnd ((s.setShelf k { sh with
        linkUp := true, state := .verifying, reverify := none, fgCount := 0,
        inFlight := [⟨0, sh.serial, order, s.now + 500⟩], serial := (sh.serial + 1) % 65536 }).emit
        (.order k 0 sh.serial order)))))

/-- R119: an answer that matches no order in flight is discarded and changes nothing. LATE_ANSWER changes nothing,
whatever it carries: the table names only answers that are discarded, and one that matches comes as its own command (log
entry 11). -/
def Obligations.UnmatchedAnswerChangesNothing : Prop :=
  ∀ (k : ShelfNo) (otag serial label : Nat) (cause : FaultCause) (ok : Bool) (s : State),
    exec (.lateAnswer k otag serial ok) s = .next s ∧
    ((∀ f ∈ (s.shelf k).inFlight, f.tag ≠ otag ∨ f.serial ≠ serial) →
      ∀ c ∈ [Instr.zeroDone k otag serial, .zeroFault k otag serial cause, .copyDone k otag serial,
        .copyFault k otag serial cause, .labelReadDone k otag serial label, .labelReadFault k otag serial cause,
        .labelWriteDone k otag serial, .labelWriteFault k otag serial cause],
      exec c s = .next s)

/-- R128, R129, R34, R35: the answer of a ZERO, where no order waits and nothing is to be scrubbed. DONE makes the slot
FREE at the tail of the free list and evaluates the due condition; FAULT of either cause retires it. Both free the tag
and clear the timeout count. Only reclaim acts besides (R82). -/
def Obligations.ZeroAnswersSettleSlot : Prop :=
  ∀ (k : ShelfNo) (f : InFlight) (c : Nat) (cause : FaultCause) (s : State),
    let sh := s.shelf k
    sh.matched f.tag f.serial = some f → f.order = .zero c → sh.orders = [] → sh.scrubQueue = [] →
    let ended : Shelf := { sh with
      inFlight := sh.inFlight.filter fun g => g.tag ≠ f.tag, timeouts := 0, fgCount := 0 }
    let free := sh.freeList ++ [c]
    let due : PoolCond := match sh.cond with
      | .normal => if free.length < sh.lowMark then .low else .normal
      | .low => if sh.lowMark + sh.lowMark / 8 ≤ free.length then .normal else .low
    let settle : Option Nat :=
      if sh.state = .online then (if due = sh.cond then none else some (sh.settle.getD (s.now + 250))) else sh.settle
    exec (.zeroDone k f.tag f.serial) s = .next (s.setShelf k { ended with
      pet := sh.pet.set c ⟨.free, 0⟩, freeList := free, settle := settle }).reclaimEnd ∧
    exec (.zeroFault k f.tag f.serial cause) s = .next (s.setShelf k { ended with
      pet := sh.pet.set c ⟨.retired, 0⟩, retired := sh.retired + 1 }).reclaimEnd

/-- R26, R25, R35, R36: the answer of a verification's LABEL-READ, where no order waits and nothing is to be scrubbed.
The record's label takes the shelf ONLINE with its condition, level and PET kept, the step timer at 250 ms and the due
condition evaluated; another label takes it to MISMATCH; a FAULT takes it OFFLINE and starts the re-verify timer if the
link is UP. Each raises its SHELF notice, whose frames leave in rising head number by the model's choice (log entry 31).
Only reclaim acts besides (R82). -/
def Obligations.LabelReadEndsVerification : Prop :=
  ∀ (k : ShelfNo) (f : InFlight) (c label : Nat) (cause : FaultCause) (s : State),
    let sh := s.shelf k
    sh.matched f.tag f.serial = some f → f.order = .labelRead c → sh.orders = [] → sh.scrubQueue = [] →
    let ended : Shelf := { sh with
      inFlight := sh.inFlight.filter fun g => g.tag ≠ f.tag, timeouts := 0, fgCount := 0 }
    let due : PoolCond := match sh.cond with
      | .normal => if sh.freeList.length < sh.lowMark then .low else .normal
      | .low => if sh.lowMark + sh.lowMark / 8 ≤ sh.freeList.length then .normal else .low
    exec (.labelReadDone k f.tag f.serial label) s = .next (State.reclaimEnd (
      if sh.label = label then
        (s.setShelf k { ended with
          state := .online, reverify := none, stepTimer := some (s.now + 250),
          settle := if due = sh.cond then none else some (sh.settle.getD (s.now + 250)) }).shelfNotice k 1
      else (s.setShelf k { ended with state := .mismatch }).shelfNotice k 3)) ∧
    exec (.labelReadFault k f.tag f.serial cause) s = .next (State.reclaimEnd
      ((s.setShelf k { ended with
        state := .offline, settle := none, stepTimer := none, inFlight := [],
        reverify := if sh.linkUp then some (s.now + 5000) else none }).shelfNotice k 2))

/-- R22, R33, R35, R127, R92 stage 3, R167: the answer of a join's LABEL-WRITE. DONE on a pre-zeroed shelf: slot C−1 is
LABEL, the others FREE on the free list in ascending order, the shelf ONLINE with its level at the base and the due
condition at once, a SHELF notice, and the SHELF-JOIN answered OK with its settings. DONE without pre-zeroing: the same,
but that the free list is empty and the other slots wait in the scrub queue in ascending order, of which the scrub
engine at once takes the first four, fewer on a shelf of fewer: each is SCRUBBING and its ZERO goes out, with the lowest
tags, the next serials and 1,000 ms. FAULT: the ABSENT values, and the SHELF-JOIN answered MEDIA. A requester that was
fenced meanwhile is answered FENCED, and one whose link went DARK not at all. Only reclaim acts besides (R82), its
notices before the reply (R174), and behind the ZEROs, which go out on another link, where no reply leaves (log entry 7).
The order of the answer's words (log entry 14) and that the SHELF notice's frames leave in rising head number (log entry
31) are the model's. -/
def Obligations.LabelWriteEndsJoin : Prop :=
  ∀ (k : ShelfNo) (f : InFlight) (c label : Nat) (w : Head) (wt : Tag) (fenced detached pz : Bool) (cause : FaultCause)
    (s : State),
    let sh := s.shelf k
    sh.matched f.tag f.serial = some f → f.order = .labelWrite c label → sh.orders = [] →
    sh.join = some ⟨⟨w, wt, fenced, detached⟩, pz⟩ →
    let left := sh.inFlight.filter fun g => g.tag ≠ f.tag
    let free := List.range (sh.capacity - 1)
    let due : PoolCond := match sh.cond with
      | .normal => if free.length < sh.lowMark then .low else .normal
      | .low => if sh.lowMark + sh.lowMark / 8 ≤ free.length then .normal else .low
    let told (z : State) (st : Status) (ws : List Nat) : State :=
      if detached then z else if fenced then z.reply w wt .fenced (.words []) else z.reply w wt st (.words ws)
    (pz = true → exec (.labelWriteDone k f.tag f.serial) s = .next (told
      ((s.setShelf k { sh with
        state := .online, cond := due, retired := 0,
        pet := List.replicate (sh.capacity - 1) ⟨.free, 0⟩ ++ [⟨.label, 0⟩], freeList := free, scrubQueue := [],
        timeouts := 0, reverify := none, settle := none, stepTimer := some (s.now + 250), level := sh.baseLevel,
        inFlight := left, fgCount := 0, join := none }).shelfNotice k 1).reclaimEnd
      .ok [sh.lowMark, sh.reserve, sh.baseLevel])) ∧
    (pz = false → sh.inFlight = [f] → sh.linkUp = true → (∀ x ∈ s.held, x.reason ≠ .orderRoom k) →
      let m := min 4 (sh.capacity - 1)
      let serial (i : Nat) : Nat := if i = 0 then sh.serial else (sh.serial + i) % 65536
      let dueLow : PoolCond := match sh.cond with
        | .normal => if 0 < sh.lowMark then .low else .normal
        | .low => if sh.lowMark + sh.lowMark / 8 = 0 then .normal else .low
      let zeros := (List.range m).map fun i => Sent.order k i (serial i) (.zero i)
      let joined : State :=
        (s.setShelf k { sh with
          state := .online, cond := dueLow, retired := 0,
          pet := List.replicate m ⟨.scrubbing, 0⟩ ++ List.replicate (sh.capacity - 1 - m) ⟨.scrubWait, 0⟩ ++
            [⟨.label, 0⟩]
          freeList := [], scrubQueue := (List.range (sh.capacity - 1)).drop m,
          timeouts := 0, reverify := none, settle := none, stepTimer := some (s.now + 250), level := sh.baseLevel,
          inFlight := (List.range m).map fun i => ⟨i, serial i, .zero i, s.now + 1000⟩, serial := serial m,
          fgCount := 0, join := none }).shelfNotice k 1
      let answered : State := told joined.reclaimEnd .ok [sh.lowMark, sh.reserve, sh.baseLevel]
      exec (.labelWriteDone k f.tag f.serial) s = .next (
        if detached then ({ joined with sent := joined.sent ++ zeros } : State).reclaimEnd
        else { answered with sent := answered.sent ++ zeros })) ∧
    exec (.labelWriteFault k f.tag f.serial cause) s = .next (told
      (s.setShelf k
        { state := .absent, capacity := 0, label := 0, lowMark := 0, reserve := 0, baseLevel := 0, cond := .normal,
          retired := 0, pet := [], freeList := [], scrubQueue := [], linkUp := sh.linkUp, timeouts := 0,
          reverify := none, settle := none, stepTimer := none, level := 0, orders := [], inFlight := [],
          serial := sh.serial, fgCount := 0, join := none }).reclaimEnd .media [])

/-! ### Copy-on-write -/

/-- R105, R106, R107, R108, R65, R68, R69: the two completions of a COW, COPY DONE and the close of its revocation by
the last acknowledgement. The first of them is noted and the COW waits: COPIED while the revocation is OPEN, CLEAR while
the COPY runs. The second finishes the COW: the entry is MAPPED to the new extent, the record is freed, the requester is
recorded WRITE, and, as its last wait, its reply goes out with the new extent's location and the write flag; a requester
with the fenced or the detached mark is recorded nowhere, and is answered FENCED or not at all. No count changes, and
every other reply record stays. The finish and the close are stated for a quiet part with no job, the last close for one
grant entry for a key, a law of the state (O56); the acknowledgement's reply leaves before the COW's (R88, R89; log entry
7). -/
def Obligations.CopyDoneCompletesCow : Prop :=
  ∀ (n : Nat) (c : Cow) (s : State), s.cow n = some c →
    let finished (u : State) (ns : List Sent) (who : Waiter) (o len : Nat) (first : List Sent) : Prop :=
      let granted := !who.fenced && !who.detached
      u.sent = s.sent ++ ns ∧
        u.entry c.vol c.ext = .mapped c.newShelf c.newSlot ∧ u.cow n = none ∧
        u.holder c.vol c.ext c.head = (if granted then some .write else s.holder c.vol c.ext c.head) ∧
        u.replies = (s.replies.filter fun r => r.id ≠ c.reply) ∧
        (u.head c.head).tags = (if who.detached then (s.head c.head).tags else (s.head c.head).tags.erase c.tag) ∧
        ns.filter Sent.isReply =
          first ++ who.told .ok (.segments [⟨.data, c.newShelf, c.newSlot * 1024 + o, len, granted⟩]) ∧
        u.tenants = s.tenants ∧ u.poolFree = s.poolFree ∧ u.reserved = s.reserved ∧
        ∀ v, (u.volume v).allocated = (s.volume v).allocated ∧ (u.volume v).cursor = (s.volume v).cursor ∧
          (u.volume v).pageCount = (s.volume v).pageCount
    let lastWait (who : Waiter) (o len : Nat) : Prop :=
      s.entry c.vol c.ext = .pending c.oldShelf c.oldSlot n ∧ (s.head c.head).link = .up ∧ s.grants.length < 16384 ∧
        (s.shelf c.newShelf).state = .online ∧ c.seg = 0 ∧ who.head = c.head ∧ who.tag = c.tag ∧
        s.replyRec c.reply = some ⟨c.reply, who, c.vol, [⟨.shared, c.ext, o, len, false⟩], 1, false⟩
    (∀ (k : ShelfNo) (f : InFlight) (a : ShelfNo) (b d : Nat),
      let sh := s.shelf k
      sh.matched f.tag f.serial = some f → f.order = .copy a b d n →
      (c.clear = false → sh.orders = [] → (sh.state = .online → sh.scrubQueue = []) →
        exec (.copyDone k f.tag f.serial) s = .next (State.reclaimEnd
          ((s.setShelf k { sh with
            inFlight := sh.inFlight.filter fun g => g.tag ≠ f.tag, timeouts := 0, fgCount := 0 }).setCow n
              { c with copied := true }))) ∧
      (∀ (who : Waiter) (o len : Nat), c.clear = true → s.quiet → s.jobs = [] → s.revAt c.vol c.ext = none →
        lastWait who o len → ∃ (u : State) (ns : List Sent),
          exec (.copyDone k f.tag f.serial) s = .next u ∧ finished u ns who o len [])) ∧
    (∀ (h : Head) (t : Tag) (x : Nat), s.ready h t → c.vol ≤ 1023 → c.ext ≤ 1048575 → s.quiet → s.jobs = [] →
      s.revAt c.vol c.ext = some ⟨c.vol, c.ext, .cow, [h], x, .cow n⟩ →
      let drop (g : Grant) : Grant := { g with holders := g.holders.set h none }
      (c.copied = false → exec (.revokeAck h t c.vol c.ext) s = .next (State.reclaimEnd (State.setCow
        (State.replied { s with
          grants := s.grants.flatMap fun g => if g.vol = c.vol ∧ g.ext = c.ext then
            (if ∀ j : Head, (drop g).holders[j] = none then [] else [drop g]) else [g]
          revs := s.revs.filter fun r => ¬(r.vol = c.vol ∧ r.ext = c.ext) } h t .ok [])
        n { c with clear := true }))) ∧
      (∀ (who : Waiter) (o len : Nat), c.copied = true → h ≠ c.head → lastWait who o len →
        (s.grants.map fun g => (g.vol, g.ext)).Nodup →
        ∃ (u : State) (ns : List Sent), exec (.revokeAck h t c.vol c.ext) s = .next u ∧
          finished u ns who o len [.reply h t .ok (.words [])] ∧
          ∀ r ∈ u.revs, r.reason = .reclaim ∨ (r ∈ s.revs ∧ (r.vol, r.ext) ≠ (c.vol, c.ext))))

/-- R109, R110, R111, R113, R178, R69: COPY FAULT. A MEDIA fault of the first attempt retries on the shelf that a COW
pick gives; any other gives up: the entry is MAPPED at the old location, the record is freed and the reply, as its last
wait ends, is MEDIA, or as the requester's marks say. A MEDIA fault retires the new extent. A fault record is pushed
into the requester's history. Every other reply record stays. It is stated for a quiet part with no job. -/
def Obligations.CopyFaultRetriesOrGivesUp : Prop :=
  ∀ (k : ShelfNo) (f : InFlight) (a : ShelfNo) (b d n : Nat) (c : Cow) (cause : FaultCause) (s : State),
    let sh := s.shelf k
    let pushed : FaultRec := match cause with
      | .media => ⟨c.newShelf, c.newSlot, .media⟩
      | .source => ⟨c.oldShelf, c.oldSlot, .source⟩
    sh.matched f.tag f.serial = some f → f.order = .copy a b d n → s.cow n = some c → s.quiet → s.jobs = [] →
    (s.head c.head).link ≠ .dark → s.entry c.vol c.ext = .pending c.oldShelf c.oldSlot n →
    (∀ j : ShelfNo, c.attempt = 1 → cause = .media → s.retryShelf c = some j →
      ∃ u : State, exec (.copyFault k f.tag f.serial cause) s = .next u ∧
        u.cow n = some { c with newShelf := j, newSlot := s.freeHead j, attempt := 2 } ∧
        u.entry c.vol c.ext = s.entry c.vol c.ext ∧ (u.volume c.vol).cursor = j + 1 ∧
        (u.shelf k).retired = sh.retired + 1 ∧ u.replies = s.replies ∧
        (u.head c.head).faultFirst = some pushed ∧ (u.head c.head).faultSecond = (s.head c.head).faultFirst) ∧
    (∀ (segs : List ReplySeg) (fenced detached : Bool), c.attempt ≠ 1 ∨ cause = .source ∨ s.retryShelf c = none →
      let who : Waiter := ⟨c.head, c.tag, fenced, detached⟩
      s.replyRec c.reply = some ⟨c.reply, who, c.vol, segs, 1, false⟩ →
      ∃ (u : State) (ns : List Sent), exec (.copyFault k f.tag f.serial cause) s = .next u ∧ u.sent = s.sent ++ ns ∧
        u.cow n = none ∧ u.entry c.vol c.ext = .mapped c.oldShelf c.oldSlot ∧
        (u.shelf k).retired = sh.retired + (if cause = .media then 1 else 0) ∧
        u.replies = (s.replies.filter fun r => r.id ≠ c.reply) ∧
        ns.filter Sent.isReply = who.told .media (.words []) ∧
        (u.head c.head).tags = (if detached then (s.head c.head).tags else (s.head c.head).tags.erase c.tag) ∧
        (u.head c.head).faultFirst = some pushed ∧ (u.head c.head).faultSecond = (s.head c.head).faultFirst ∧
        u.tenants = s.tenants ∧ ∀ v, (u.volume v).allocated = (s.volume v).allocated ∧
          (u.volume v).cursor = (s.volume v).cursor)

/-! ### Timers -/

/-- R122, R27, R26, R22, R25, R123, R129: the timeout of an order in flight. Its tag is freed, and the count rises by 1,
not above 3. An ONLINE shelf whose count reaches 3 is OFFLINE with the count 0, and the slots of its ZERO and COPY
orders, the late one's among them, are at the head of the scrub queue as one group in ascending order; below 3 it stays
ONLINE, and the slot of a late ZERO is at the head of the scrub queue or out in a new ZERO. A verification goes OFFLINE;
a join returns to ABSENT, with the count that R20 does not name kept (log entry 25). A shelf that leaves its state has
no orders. The re-verify timer starts at 5,000 ms at each entry to OFFLINE while the link is UP. That the clock then
stands no earlier than the timer's end is the model's choice (log entry 2). -/
def Obligations.OrderTimeoutCounts : Prop :=
  ∀ (k : ShelfNo) (otag : Nat) (f : InFlight) (s : State), (s.shelf k).underTag otag = some f →
    ∃ u : State, exec (.orderTimeout k otag) s = .next u ∧
      let sh := s.shelf k
      let now := max s.now f.deadline
      let back : Option Nat := if sh.linkUp then some (now + 5000) else none
      let slots := ((f.order :: (sh.inFlight.filter fun g => g.tag ≠ otag).map InFlight.order ++ sh.orders).filterMap
        fun o => match o with
          | .zero c => some c
          | .copy _ _ d _ => some d
          | .labelRead _ | .labelWrite _ _ => none).insertionSort (· ≤ ·)
      let cleared : Prop := (u.shelf k).orders = [] ∧ (u.shelf k).inFlight = []
      u.now = now ∧ (u.shelf k).linkUp = sh.linkUp ∧
      (∀ g ∈ (u.shelf k).inFlight, (g ∈ sh.inFlight ∧ g.tag ≠ otag) ∨ g.deadline = now + g.order.timeout) ∧
      (sh.state = .online → 2 ≤ sh.timeouts →
        (u.shelf k).state = .offline ∧ (u.shelf k).timeouts = 0 ∧ (u.shelf k).reverify = back ∧
        (u.shelf k).cond = sh.cond ∧ (u.shelf k).level = sh.level ∧ cleared ∧
        slots ++ sh.scrubQueue <+: (u.shelf k).scrubQueue) ∧
      (sh.state = .online → sh.timeouts < 2 →
        (∃ c, f.order = .zero c) ∨ (∃ a b d n, f.order = .copy a b d n) →
        (u.shelf k).state = .online ∧ (u.shelf k).timeouts = sh.timeouts + 1 ∧
        ∀ c, f.order = .zero c → (u.shelf k).scrubQueue.head? = some c ∨ .zero c ∈ (u.shelf k).orders ∨
          ∃ g ∈ (u.shelf k).inFlight, g.order = .zero c) ∧
      (sh.state = .verifying → (∃ c, f.order = .labelRead c) →
        (u.shelf k).state = .offline ∧ (u.shelf k).timeouts = min 3 (sh.timeouts + 1) ∧
        (u.shelf k).reverify = back ∧ cleared) ∧
      (sh.state = .joining → (∃ c label, f.order = .labelWrite c label) →
        (u.shelf k).state = .absent ∧ (u.shelf k).timeouts = min 3 (sh.timeouts + 1) ∧ (u.shelf k).capacity = 0 ∧
        cleared) ∧
      ∀ j, j ≠ k → (u.shelf j).state = (s.shelf j).state ∧ (u.shelf j).timeouts = (s.shelf j).timeouts

/-- R25, R36, R130: the expiries of a shelf's timers that run. Re-verify begins a verification; settle gives the
condition its due value with a SHELF notice and stops; the scrub level steps up while LOW, not above 7, and down while
NORMAL, not below the base, and its timer starts again. That the clock then stands no earlier than the timer's end (log
entry 2) and that the SHELF notice's frames leave in rising head number (log entry 31) are the model's choices. -/
def Obligations.ShelfTimersExpire : Prop :=
  ∀ (k : ShelfNo) (d : Nat) (s : State),
    let sh := s.shelf k
    let at_ : State := { s with now := max s.now d }
    (sh.reverify = some d → sh.state = .offline → sh.linkUp = true → sh.orders = [] → sh.inFlight = [] →
      (∀ x ∈ s.held, x.reason ≠ .orderRoom k) →
      let order := Order.labelRead (sh.capacity - 1)
      exec (.reverifyExpiry k) s = .next (State.reclaimEnd ((at_.setShelf k { sh with
        state := .verifying, reverify := none, fgCount := 0, inFlight := [⟨0, sh.serial, order, at_.now + 500⟩],
        serial := (sh.serial + 1) % 65536 }).emit (.order k 0 sh.serial order)))) ∧
    (sh.settle = some d →
      let due : PoolCond := match sh.cond with
        | .normal => if sh.freeList.length < sh.lowMark then .low else .normal
        | .low => if sh.lowMark + sh.lowMark / 8 ≤ sh.freeList.length then .normal else .low
      exec (.settleExpiry k) s = .next ((at_.setShelf k { sh with cond := due, settle := none }).shelfNotice k 4)) ∧
    (sh.stepTimer = some d → sh.state = .online → ∃ u : State, exec (.scrubStepExpiry k) s = .next u ∧
      u.now = at_.now ∧ (u.shelf k).stepTimer = some (at_.now + 250) ∧ (u.shelf k).cond = sh.cond ∧
      (u.shelf k).level = (match sh.cond with
        | .low => if sh.level < 7 then sh.level + 1 else sh.level
        | .normal => if sh.baseLevel < sh.level then sh.level - 1 else sh.level) ∧
      (∀ j, j ≠ k → (u.shelf j).level = (s.shelf j).level ∧ (u.shelf j).stepTimer = (s.shelf j).stepTimer))

/-- R90, R92, R93: the expiry of a record fences every head it still awaits. Its link is FENCED; its held entries are
gone, each answered FENCED; its requests that wait for work in progress carry the fenced mark; no holder record of it
and no awaited place is left, and the record has closed; the FENCE notice, with the record's key, is sent and stands. No
other head's link changes. That the clock then stands no earlier than the window's end is the model's choice (log entry
2). -/
def Obligations.RevokeExpiryFencesAwaited : Prop :=
  ∀ (v e : Nat) (r : Rev) (s : State), s.revAt v e = some r → ∃ u : State,
    exec (.revokeExpiry v e) s = .next u ∧ u.now = max s.now r.expiry ∧
    (∀ h ∈ r.awaited,
      let n : Notice := ⟨.fence, 0, h.val, v, e, 0⟩
      (u.head h).link = .fenced ∧ (u.head h).fence = some n ∧ .notice h n ∈ u.sent ∧
      (∀ x ∈ u.held, x.head ≠ h) ∧ (∀ x ∈ s.held, x.head = h → .reply h x.tag .fenced (.words []) ∈ u.sent) ∧
      (∀ v' e', u.holder v' e' h = none) ∧ (∀ x ∈ u.revs, h ∉ x.awaited) ∧
      (∀ x ∈ u.replies, x.who.head = h → x.who.fenced = true) ∧
      (∀ p ∈ u.passes, ∀ w, p.cause = .freeze w → w.head = h → w.fenced = true) ∧
      (∀ w, u.pause = some w → w.head = h → w.fenced = true) ∧
      (∀ k j, (u.shelf k).join = some j → j.who.head = h → j.who.fenced = true)) ∧
    (r.awaited ≠ [] → r ∉ u.revs) ∧
    (∀ h, h ∉ r.awaited → (u.head h).link = (s.head h).link ∧ (u.head h).fence = (s.head h).fence) ∧
    ∀ h, (u.head h).masks = (s.head h).masks ∧ (u.head h).errors = (s.head h).errors

/-! ### Sweep Engine -/

/-- R150 to R157: a step of a RUNNING TRIM or DELETE. At an extent index in a present slot. UNMAPPED: the cursor alone
moves, to the next index in a present slot (that it passes absent slots in the same step is read from R151, log entry
16). PENDING, or a key with an open record: the step waits. MAPPED with holders: a TRIM or DELETE record awaiting every
holder is opened, or the step waits for a record. MAPPED without holders: the entry is UNMAPPED, its slot loses a
reference, and for a TRIM the volume and its tenant are charged for one extent less. With no present slot left in the
walk, also after the last entry is unmapped, a TRIM ends: it leaves the queue, its JOB notice goes to every head, and
the next job becomes RUNNING. A DELETE with no open record and no pass on its volume ends likewise: the volume is FREE,
its grant entries are freed, and the family's and the tenant's volume counts fall by 1; with one it waits END. That the
REVOKE notices of one record and the frames of a JOB notice leave in rising head number is the model's choice (log entry
31). -/
def Obligations.JobStepWaitsOrUnmaps : Prop :=
  (∀ (r : Volume) (c e : Nat), c ≤ e →
    let i := r.nextPresent c e
    c ≤ i ∧ i ≤ e ∧ (i < e → r.slotPresent i = true) ∧ ∀ x, c ≤ x → x < i → r.slotPresent x = false) ∧
  ∀ (j : Job) (rest : List Job) (v : Nat) (reason : RevReason) (s : State),
    let c := j.cursor
    let r := s.volume v
    let w (x : JobWait) : State := ({ s with jobWait := x } : State).reclaimEnd
    let started (line : List Job) : List Job := match line with
      | [] => []
      | j :: rest => (if j.state = .waiting then { j with state := .running } else j) :: rest
    let kind : Nat := if reason = .delete then 1 else 2
    let idle : Prop := (∀ x ∈ s.revs, x.vol ≠ v) ∧ ∀ p ∈ s.passes, p.vol ≠ v
    let freed (z : State) : State :=
      (((z.setVolume v
        { state := .free, prior := none, tenant := 0, family := 0, size := 0, quota := 0, allocated := 0, mask := 0,
          mark := 0, crossed := false, hold := false, cursor := 0, dir := [], pageCount := 0 }).setFamily
            r.family (s.family r.family - 1)).updTenant r.tenant fun x => { x with volumes := x.volumes - 1 })
    s.jobs = j :: rest → j.state = .running → s.jobWait = .none → s.pause = none →
    (j.work = .delete v ∧ reason = .delete) ∨ (∃ first count, j.work = .trim v first count ∧ reason = .trim) →
    (c < j.endIdx → r.slotPresent c = true →
      (s.entry v c = .unmapped → r.nextPresent (c + 1) j.endIdx < j.endIdx →
        exec .jobStep s = .next ({ s with
          jobs := { j with cursor := r.nextPresent (c + 1) j.endIdx } :: rest } : State).reclaimEnd) ∧
      (∀ k slot n, s.entry v c = .pending k slot n → exec .jobStep s = .next (w (.cow v c))) ∧
      (∀ k slot, s.entry v c = .mapped k slot →
        (∀ x, s.revAt v c = some x → exec .jobStep s = .next (w (.keyRecord v c))) ∧
        (∀ g, s.revAt v c = none → s.grantAt v c = some g →
          (64 ≤ s.revs.length → exec .jobStep s = .next (w (.record v c))) ∧
          (s.revs.length < 64 → exec .jobStep s = .next
            ({ s.openRev v c reason (s.holdersOf v c) .job with jobWait := .revocation v c } : State).reclaimEnd)) ∧
        (s.revAt v c = none → s.grantAt v c = none → s.held = [] →
          ∃ u : State, exec .jobStep s = .next u ∧ u.entry v c = .unmapped ∧
            (u.shelf k).refs slot = (s.shelf k).refs slot - 1 ∧
            (reason = .trim → (u.volume v).allocated = r.allocated - 1 ∧
              (u.tenant r.tenant).charged = (s.tenant r.tenant).charged - 1 ∧
              (∀ e, e ≠ c → u.entry v e = s.entry v e) ∧ (u.volume v).state = r.state) ∧
            (let next := (u.volume v).nextPresent (c + 1) j.endIdx;
              (next < j.endIdx ∨ (reason = .delete ∧ ¬idle) →
                u.jobs = { j with cursor := next, processed := j.processed + 1 } :: rest ∧
                u.jobWait = if next < j.endIdx then .none else .endWait) ∧
              (j.endIdx ≤ next → reason = .trim ∨ idle →
                u.jobs = started rest ∧ u.jobWait = .none ∧ (reason = .delete → (u.volume v).state = .free) ∧
                ∀ h, (s.head h).link ≠ .dark → (s.head h).masks.job = false →
                  .notice h ⟨.job, kind, j.number, v, j.processed + 1, 0⟩ ∈ u.sent))))) ∧
    (∀ i, (i = c ∨ (i = c + 1 ∧ c < j.endIdx ∧ r.slotPresent c = true ∧ s.entry v c = .unmapped)) →
      j.endIdx ≤ r.nextPresent i j.endIdx →
      let end_ (z : State) : State :=
        ({ z with jobs := started rest } : State).notifyAll ⟨.job, kind, j.number, v, j.processed, 0⟩
      (reason = .trim → exec .jobStep s = .next (end_ s).reclaimEnd) ∧
      (reason = .delete → idle → (∀ x ∈ s.held, x.reason ≠ .grantRoom) → exec .jobStep s = .next
        (end_ (freed { s with grants := s.grants.filter fun g => g.vol ≠ v })).reclaimEnd) ∧
      (reason = .delete → ¬idle → exec .jobStep s = .next (State.reclaimEnd { s with
        jobs := { j with cursor := r.nextPresent i j.endIdx } :: rest, jobWait := .endWait })))

/-- R150, R158, R159, R55: a copy step of a RUNNING CLONE whose pass has ended copies the lowest present parent page at
or above the cursor: the clone's entries, one more reference for each extent, one reserved page, and the move from
promised to charged. The parent's map and counts stay. With no present parent page left above it, and also when there is
none to copy, the job ends: the clone is ACTIVE, the parent in its prior state, which is cleared, the JOB notice goes to
every head, the job leaves the queue, and the next one becomes RUNNING. That the step which copies the last page also
ends the job is read from R158 and R159 (log entry 16), and that the notice's frames leave in rising head number is the
model's choice (log entry 31). -/
def Obligations.CloneStepCopiesPage : Prop :=
  ∀ (j : Job) (rest : List Job) (v parent : Nat) (s : State),
    s.jobs = j :: rest → j.state = .running → j.work = .clone v parent → v ≠ parent →
    s.clonePass j.number = false → s.pause = none →
    let started (line : List Job) : List Job := match line with
      | [] => []
      | j :: rest => (if j.state = .waiting then { j with state := .running } else j) :: rest
    let prior : VolState := if (s.volume parent).prior = some .frozen then .frozen else .active
    (∀ (slot : Nat) (p : Page), (s.volume parent).nextSlot j.cursor = some (slot, p) →
      (∀ q ∈ p.entries, ∃ k c, q.2 = .mapped k c) →
      let m := p.entries.length
      let cursor := (slot + 1) * 256
      ∃ u : State, exec .cloneCopyStep s = .next u ∧
        (∀ i, i < 256 → u.entry v (slot * 256 + i) = s.entry parent (slot * 256 + i)) ∧
        (∀ e, e / 256 ≠ slot → u.entry v e = s.entry v e) ∧
        (∀ e, u.entry parent e = s.entry parent e) ∧
        (u.volume v).allocated = (s.volume v).allocated + m ∧ (u.volume v).pageCount = (s.volume v).pageCount + 1 ∧
        (u.volume parent).allocated = (s.volume parent).allocated ∧
        (u.volume parent).pageCount = (s.volume parent).pageCount ∧
        u.poolFree = s.poolFree - 1 ∧ u.reserved = s.reserved - 1 ∧
        (u.tenant (s.volume v).tenant).charged = (s.tenant (s.volume v).tenant).charged + m ∧
        (u.tenant (s.volume v).tenant).promised = (s.tenant (s.volume v).tenant).promised - m ∧
        (∀ (k : ShelfNo) (c : Nat), c < (s.shelf k).pet.length →
          (u.shelf k).refs c = (s.shelf k).refs c + p.entries.countP fun q => q.2 = .mapped k c) ∧
        u.grants = s.grants ∧ u.revs = s.revs ∧ u.held = s.held ∧
        ((s.volume parent).nextSlot cursor ≠ none →
          u.jobs = { j with cursor := cursor, processed := j.processed + m } :: rest ∧
          (u.volume v).state = (s.volume v).state ∧ (u.volume parent).state = (s.volume parent).state ∧
          (u.volume parent).prior = (s.volume parent).prior) ∧
        ((s.volume parent).nextSlot cursor = none →
          u.jobs = started rest ∧ (u.volume v).state = .active ∧ (u.volume parent).state = prior ∧
          (u.volume parent).prior = none ∧
          ∀ h, (s.head h).link ≠ .dark → (s.head h).masks.job = false →
            .notice h ⟨.job, 3, j.number, v, j.processed + m, 0⟩ ∈ u.sent)) ∧
    ((s.volume parent).nextSlot j.cursor = none → exec .cloneCopyStep s = .next
      (((({ s with jobs := started rest, jobWait := .none } : State).setVolume v
        { s.volume v with state := .active }).setVolume parent
          { s.volume parent with state := prior, prior := none }).notifyAll ⟨.job, 3, j.number, v, j.processed, 0⟩))

/-- R160, R161, R162, R172: JOB-PAUSE, JOB-GO and JOB-READ by the head job and its pending pause. That the wait of a
PAUSED CLONE reads NONE while its pass runs is read from R162 (log entry 15). -/
def Obligations.JobRequestsActOnHead : Prop :=
  ∀ (h : Head) (t : Tag) (s : State), s.ready h t →
    let words (j : Job) : List Nat := match j.work with
      | .delete v => [j.number, 1, v, 4294967295, 4294967295, 4294967295, j.cursor, j.state.code, j.processed]
      | .trim v first count => [j.number, 2, v, 4294967295, first, count, j.cursor, j.state.code, j.processed]
      | .clone v parent => [j.number, 3, v, parent, 4294967295, 4294967295, j.cursor, j.state.code, j.processed]
    let wait (j : Job) : List Nat := match s.jobWait with
      | .none =>
          match j.work with
          | .clone _ _ =>
              if j.state = .running ∧ s.clonePass j.number = true then [5, 4294967295, 4294967295]
              else [0, 4294967295, 4294967295]
          | .delete _ | .trim _ _ _ => [0, 4294967295, 4294967295]
      | .keyRecord v e => [1, v, e]
      | .revocation v e => [2, v, e]
      | .record v e => [3, v, e]
      | .cow v e => [4, v, e]
      | .endWait => [6, 4294967295, 4294967295]
    exec (.jobPause h t) s = .next (match s.jobs with
      | [] => s.refused h t .notRunning
      | j :: rest =>
          if j.state ≠ .running then s.refused h t .notRunning
          else if s.pause.isSome then s.refused h t .volumeBusy
          else if s.jobWait = .none then
            ({ s with jobs := { j with state := .paused } :: rest } : State).replied h t .ok []
          else { s.openTag h t with pause := some ⟨h, t, false, false⟩ }) ∧
    exec (.jobGo h t) s = .next (match s.jobs with
      | [] => s.refused h t .notPaused
      | j :: rest =>
          if j.state = .paused then
            ({ s with jobs := { j with state := .running } :: rest } : State).replied h t .ok []
          else s.refused h t .notPaused) ∧
    exec (.jobRead h t) s = .next (s.replied h t .ok (match s.jobs with
      | [] => [s.nextJob]
      | j :: rest =>
          [s.nextJob] ++ words j ++ [if s.pause.isSome then 1 else 0] ++ wait j ++ (rest.map words).flatten))

/-! ### Restart -/

/-- R13, R11, R37, R46, R101, R117, R132, R163, R164, R166, R179: a power-on, and the reset line but for its start
cause. Volatile state is empty: links DARK, every class masked, no grant, record, pass, COW, held request or pending
pause, reclaim INACTIVE. The Map Store keeps its volumes, but that a PENDING entry is MAPPED at its old location and
each CLONE job is a DELETE of its clone from extent index 0, the clone DELETING, the parent in its prior state, and what
was still promised and reserved for it given back. An ONLINE or VERIFYING shelf is OFFLINE, and VERIFYING again if its
link is found UP, with its LABEL-READ out; a JOINING shelf is ABSENT; SCRUBBING slots go to the head of the scrub queue
and COPY-TARGET slots to its tail, each group in ascending order. -/
def Obligations.RestartEmptiesVolatileState : Prop :=
  ∀ (links : BitVec 8) (reset : Bool) (s : State), ∃ u : State,
    exec (if reset then .resetLine links else .powerOn links) s = .next u ∧
    u.startCause = (if reset then .resetLine else .powerOn) ∧ u.pin = false ∧
    (∀ h, u.head h =
      { link := .dark, tags := [], errors := 0, masks := ⟨true, true, true, true⟩, pending := ⟨none, none, none, none⟩,
        fence := none, faultFirst := none, faultSecond := none }) ∧
    u.grants = [] ∧ u.revs = [] ∧ u.passes = [] ∧ u.cows = [] ∧ u.held = [] ∧
    u.replies = [] ∧ u.reclaim = false ∧ u.pause = none ∧ u.jobWait = .none ∧ u.nextJob = s.nextJob ∧
    u.poolFree = s.poolFree ∧ u.families = s.families ∧
    u.jobs = (s.jobs.map fun j => match j.work with
      | .clone v _ => { j with work := .delete v, cursor := 0, endIdx := (s.volume v).size, processed := 0 }
      | .delete _ | .trim _ _ _ => j) ∧
    u.reserved = s.reserved - (s.jobs.map fun j => match j.work with
      | .clone v p => (s.volume p).pageCount - (s.volume v).pageCount
      | .delete _ | .trim _ _ _ => 0).sum ∧
    (∀ n, u.tenant n = { s.tenant n with
      promised := (s.tenant n).promised - (s.jobs.map fun j => match j.work with
        | .clone v p => if (s.volume v).tenant = n then (s.volume p).allocated - (s.volume v).allocated else 0
        | .delete _ | .trim _ _ _ => 0).sum }) ∧
    (∀ v, { u.volume v with state := .free, prior := none, dir := [] } =
      { s.volume v with state := .free, prior := none, dir := [] }) ∧
    (∀ v, (∀ j ∈ s.jobs, ∀ c p, j.work = .clone c p → v ≠ c ∧ v ≠ p) →
      (u.volume v).state = (s.volume v).state ∧ (u.volume v).prior = (s.volume v).prior) ∧
    ((s.jobs.flatMap fun j => j.work.volumes).Nodup → ∀ j ∈ s.jobs, ∀ c p, j.work = .clone c p →
      (u.volume c).state = .deleting ∧ (u.volume p).prior = none ∧
      (u.volume p).state = if (s.volume p).prior = some .frozen then .frozen else .active) ∧
    (∀ v e, u.entry v e = match s.entry v e with
      | .pending k c _ => .mapped k c
      | .mapped k c => .mapped k c
      | .unmapped => .unmapped) ∧
    (∀ k : ShelfNo,
      let sh := s.shelf k
      let at_ (st : SlotState) : List Nat :=
        (List.range sh.pet.length).filter fun c => (sh.pet[c]?).map PetEntry.state = some st
      (u.shelf k).linkUp = links.getLsbD k.val ∧ (u.shelf k).timeouts = 0 ∧ (u.shelf k).orders = [] ∧
      (u.shelf k).state = (match sh.state with
        | .absent | .joining => .absent
        | .verifying | .online | .offline => if links.getLsbD k.val then .verifying else .offline
        | .mismatch => if links.getLsbD k.val then .verifying else .mismatch) ∧
      (u.shelf k).inFlight = (if (u.shelf k).state = .verifying then
        [⟨0, 0, .labelRead (sh.capacity - 1), s.now + 500⟩] else []) ∧
      (sh.state = .joining → (u.shelf k).capacity = 0 ∧ (u.shelf k).pet = []) ∧
      (sh.state ≠ .joining → (u.shelf k).capacity = sh.capacity ∧
        (u.shelf k).label = sh.label ∧ (u.shelf k).cond = sh.cond ∧
        (u.shelf k).retired = sh.retired ∧ (u.shelf k).freeList = sh.freeList ∧
        (u.shelf k).level = sh.baseLevel ∧
        (u.shelf k).pet = (sh.pet.map fun p =>
          if p.state = .scrubbing ∨ p.state = .copyTarget then ⟨.scrubWait, 0⟩ else p) ∧
        (u.shelf k).scrubQueue = at_ .scrubbing ++ sh.scrubQueue ++ at_ .copyTarget))

/-! ### Shared rules -/

/-- R173, R174: a notice of a maskable class addressed to every head is judged for each head: discarded on a DARK link,
sent when its class is unmasked, and else kept as the pending record, which counts the one it replaces up to 255. That
the frames leave in rising head number is the model's choice (log entry 31). -/
def Obligations.NoticeJudgedForEachHead : Prop :=
  ∀ (n : Notice) (s : State), n.cls ≠ .revoke → n.cls ≠ .fence →
    let u := s.notifyAll n
    let masked (h : Head) : Prop := (s.head h).masks.at n.cls = some true
    u.sent = s.sent ++ (allHeads.filter fun h => (s.head h).link ≠ .dark ∧ ¬masked h).map
      (fun h => Sent.notice h n) ∧
    (∀ h, u.head h =
      if (s.head h).link ≠ .dark ∧ masked h then
        { s.head h with pending := (s.head h).pending.put n.cls (some { n with
          missed := match ((s.head h).pending.at n.cls).join with
            | none => 0
            | some old => min 255 (old.missed + 1) }) }
      else s.head h) ∧
    u.volumes = s.volumes ∧ u.shelves = s.shelves ∧ u.grants = s.grants ∧ u.jobs = s.jobs

/-- R121, R122, R124, R125: one dispatch of a shelf. It needs an UP link, a state of R124, a free tag and an order that
the table of R125 makes eligible; the order it takes, F after it, the lowest free tag, the next serial and the timer.
That nothing is dispatched while four ZEROs are in flight and one waits is the model's choice: no row of R125 is such a
state, and R127 keeps the part out of it (log entry 23). -/
def Obligations.DispatchFollowsTable : Prop :=
  ∀ (now : Nat) (sh : Shelf),
    let zeros := sh.orders.filter Order.isZero
    let others := sh.orders.filter fun o => !o.isZero
    let b := (sh.inFlight.filter fun f => f.order.isZero).length
    let choice : Option (Order × Nat) := match zeros, others with
      | [], [] => none
      | [], o :: _ => some (o, 0)
      | z :: _, [] => if b < 4 then some (z, 0) else none
      | z :: _, o :: _ =>
          if b < 4 then (if 8 - sh.level ≤ sh.fgCount then some (z, 0) else some (o, sh.fgCount + 1)) else none
    let used (t : Nat) : Prop := ∃ f ∈ sh.inFlight, f.tag = t
    let may : Prop := sh.linkUp = true ∧ (sh.state = .joining ∨ sh.state = .verifying ∨ sh.state = .online)
    (¬may ∨ (∀ t, t < 32 → used t) ∨ choice = none → sh.dispatchOne now = none) ∧
    (∀ t o fAfter, may → t < 32 → ¬used t → (∀ t', t' < t → used t') → choice = some (o, fAfter) →
      ∃ sh' : Shelf, sh.dispatchOne now = some (sh', ⟨t, sh.serial, o, now + o.timeout⟩) ∧
        sh'.inFlight = sh.inFlight ++ [⟨t, sh.serial, o, now + o.timeout⟩] ∧ sh'.orders = sh.orders.erase o ∧
        sh'.serial = (sh.serial + 1) % 65536 ∧
        sh'.fgCount = (if sh'.orders.any Order.isZero then fAfter else 0) ∧ sh'.pet = sh.pet ∧
        sh'.freeList = sh.freeList ∧ sh'.scrubQueue = sh.scrubQueue)

/-- R127, R128: the scrub engine. On an ONLINE shelf it queues ZEROs from the head of the scrub queue while fewer than
four are waiting or in flight and the order list has room, and each such slot becomes SCRUBBING; on any other shelf it
does nothing. So the DONE of a shelf's only order, a ZERO, with one slot left to scrub, frees its slot and sends the
next ZERO with the lowest tag. Only reclaim acts besides (R82). -/
def Obligations.ScrubEngineQueuesZeros : Prop :=
  (∀ sh : Shelf,
    let out := (sh.orders.filter Order.isZero).length + (sh.inFlight.filter fun f => f.order.isZero).length
    let n := if sh.state = .online then min (4 - out) (min sh.scrubQueue.length (64 - sh.orders.length)) else 0
    let slots := sh.scrubQueue.take n
    sh.scrub = { sh with
      orders := sh.orders ++ slots.map Order.zero
      scrubQueue := sh.scrubQueue.drop n
      pet := slots.foldl (fun p c => p.set c ⟨.scrubbing, 0⟩) sh.pet }) ∧
  (∀ (k : ShelfNo) (f : InFlight) (c c' : Nat) (s : State),
    let sh := s.shelf k
    sh.inFlight = [f] → f.order = .zero c → sh.orders = [] → sh.scrubQueue = [c'] → sh.state = .online →
    sh.linkUp = true → (∀ x ∈ s.held, x.reason ≠ .orderRoom k) →
    let free := sh.freeList ++ [c]
    let due : PoolCond := match sh.cond with
      | .normal => if free.length < sh.lowMark then .low else .normal
      | .low => if sh.lowMark + sh.lowMark / 8 ≤ free.length then .normal else .low
    exec (.zeroDone k f.tag f.serial) s = .next (State.reclaimEnd ((s.setShelf k { sh with
      pet := (sh.pet.set c ⟨.free, 0⟩).set c' ⟨.scrubbing, 0⟩
      freeList := free
      scrubQueue := []
      timeouts := 0
      settle := if due = sh.cond then none else some (sh.settle.getD (s.now + 250))
      inFlight := [⟨0, sh.serial, .zero c', s.now + 1000⟩]
      serial := (sh.serial + 1) % 65536
      fgCount := 0 }).emit (.order k 0 sh.serial (.zero c')))))

/-- R38, R39, R40: a pick that succeeds gives an ONLINE shelf of the mask that is eligible after the picks before it, a
NORMAL one if there is any such NORMAL shelf, and the first in scan order from the cursor of those it prefers; it fails
only if there is no candidate. A second pick of one admission starts past the first one's shelf and sees the slot that
it took. -/
def Obligations.PickPrefersNormalInScanOrder : Prop :=
  ∀ (s : State) (mask : BitVec 8) (cursor : ShelfNo),
    (∀ (taken : List ShelfNo) (fresh : Bool),
      let left (k : ShelfNo) : Nat := (s.shelf k).freeList.length - taken.count k
      let fits (k : ShelfNo) : Prop := mask.getLsbD k.val = true ∧ (s.shelf k).state = .online ∧
        (if fresh then (s.shelf k).reserve < left k else 1 ≤ left k)
      let normal (k : ShelfNo) : Prop := fits k ∧ (s.shelf k).cond = .normal
      let order (k : ShelfNo) : Nat := (k - cursor : ShelfNo).val
      (s.pickShelf mask cursor taken fresh = none ↔ ∀ k, ¬fits k) ∧
      (∀ k, s.pickShelf mask cursor taken fresh = some k →
        fits k ∧ ((∃ j, normal j) → normal k) ∧
        ∀ j, order j < order k → ¬normal j ∧ ((∀ i, ¬normal i) → ¬fits j))) ∧
    (∀ (a : Bool) (ks : List ShelfNo) (c : ShelfNo), s.pickAll mask cursor [] [a] = some (ks, c) ↔
      ∃ k, s.pickShelf mask cursor [] a = some k ∧ ks = [k] ∧ c = k + 1) ∧
    (∀ (a b : Bool) (ks : List ShelfNo) (c : ShelfNo), s.pickAll mask cursor [] [a, b] = some (ks, c) ↔
      ∃ k j, s.pickShelf mask cursor [] a = some k ∧ s.pickShelf mask (k + 1) [k] b = some j ∧ ks = [k, j] ∧
        c = j + 1)

/-- R165, R92, R170: the link state of a head changes only by signal and its loss, REJOIN, the expiry of a record and a
restart. -/
def Obligations.LinkStateChangesByFewCommands : Prop :=
  ∀ (c : Instr) (h : Head) (s t : State), exec c s = .next t → (t.head h).link ≠ (s.head h).link →
    (∃ links, c = .powerOn links ∨ c = .resetLine links) ∨ c = .linkUp h ∨ c = .linkLoss h ∨ (∃ g, c = .rejoin h g) ∨
      ∃ v e, c = .revokeExpiry v e

/-! ### Frames -/

/-- Tables 10-1 and 10-3, R168, R169: the frame of a request, its CRC-16 with it, decodes to that request, with every
operand at every value its field admits. Whatever bytes arrive, the part takes them as a well-formed command of the head
they came from: a frame that fails its check, a frame with an unknown kind, or a request. -/
def Obligations.FramesDecodeToCommands : Prop :=
  (∀ (c : Instr) (bytes : List Byte), c.wellFormed = true → encodeFrame c = some bytes →
    bytes.length = 16 ∧ frameBad bytes = false ∧ decodeFrame c.sender bytes = c) ∧
  (∀ (h : Head) (bytes : List Byte),
    (decodeFrame h bytes).wellFormed = true ∧ (decodeFrame h bytes).sender = h ∧
      (frameBad bytes = true ↔ decodeFrame h bytes = .frameDiscard h bytes))

/-! ### Invariants -/

/-- R20, R21, R27, R131: every command keeps each shelf's reserve at or below its low mark and that at or below C−1 (0
on an ABSENT shelf), its level between its base and 7, and its timeout count at or below 3. -/
def Obligations.StepKeepsShelvesInBounds : Prop :=
  ∀ s t : State, s.shelvesInBounds → step s = .next t → t.shelvesInBounds

/-- Every command keeps the tables of the Map Store, the directories and the map pages in their canonical sparse form,
which is the model's choice (log entry 20). -/
def Obligations.StepKeepsTablesCanonical : Prop :=
  ∀ s t : State, s.tablesCanonical → step s = .next t → t.tablesCanonical

/-- R71, R79, R84, R95, R102, R150: every command keeps the held list, the job queue, and the grant, revocation, pass
and COW records within their room, and the sequence numbers in use below their counters. -/
def Obligations.StepKeepsRoomAndNumbers : Prop :=
  ∀ s t : State, s.inRoom → s.numbered → step s = .next t → t.inRoom ∧ t.numbered

/-- R79, R84, R76, R93, R94: every command keeps one grant entry for a key, each with a holder, and one revocation
record for a key, which awaits someone and only holders of its key; and a head whose link is not UP holds no grant and
has no held request. -/
def Obligations.StepKeepsGrantsLawful : Prop :=
  ∀ s t : State, s.grantsLawful → step s = .next t → t.grantsLawful

/-- R120, R121: every command keeps each shelf's order list within its room, each tag in flight once and below 32, and
only the orders that the shelf's state admits. -/
def Obligations.StepKeepsOrdersLawful : Prop :=
  ∀ s t : State, s.ordersLawful → step s = .next t → t.ordersLawful

/-- R31, R32, R33, R103: every command keeps each slot's refcount at the number of map entries that name it, its state
in agreement with that count, with the free list, the scrub queue, the ZERO orders and the COW records; and each COW
record with its one PENDING entry and its COPY order. The other laws of the state are its premises. -/
def Obligations.StepKeepsExtentsLawful : Prop :=
  ∀ s t : State, s.sound → s.countsLawful → s.extentsLawful → step s = .next t → t.extentsLawful

/-- R9, R46, R48, R49, R50, R143, R150: every command keeps the counts of the volumes, the families, the tenants (their
volume counts with them) and the page pool in agreement with the volume table, the maps and the job queue, each within
its limit, and the laws of the job queue, whose head alone is RUNNING or PAUSED. The other laws of the state are its
premises. -/
def Obligations.StepKeepsCountsLawful : Prop :=
  ∀ s t : State, s.sound → s.countsLawful → s.extentsLawful → step s = .next t → t.countsLawful ∧ t.jobsLawful

/-- R11: the state after reset meets every invariant above. That the initial Map Store and the volatile state are the
factory part's, in the canonical sparse form, is the model's choice (log entries 10 and 20). -/
def Obligations.ResetMeetsInvariants : Prop :=
  State.reset.shelvesInBounds ∧ State.reset.grantsLawful ∧ State.reset.sound ∧ State.reset.countsLawful ∧
    State.reset.extentsLawful

end
end

