-- ==== Sys2Proof/Laws/Apart.lean ====
section
/-! SUPPORT. Parts of one event that no rule orders (R174): what `Ev.thenApart` changes, said once. It moves frames of the
event and nothing else. -/

namespace Sys2Proof.Machine

@[simp] theorem Sent.apart_nil (a : List Sent) : Sent.apart a [] = a := by cases a <;> rfl

@[simp] theorem Sent.nil_apart (b : List Sent) : Sent.apart [] b = b := by simp [Sent.apart]

theorem Sent.place_le (x : Sent) (before after next : List Sent) : x.place before after next ≤ 2 := by
  unfold Sent.place
  split
  · split <;> omega
  · split <;> omega
  · omega

theorem Sent.places_snd (next before l : List Sent) : (Sent.places next before l).map Prod.snd = l := by
  induction l generalizing before with
  | nil => rfl
  | cons x l ih => simp [Sent.places, ih]

theorem Sent.places_le (next before l : List Sent) : ∀ p ∈ Sent.places next before l, p.1 ≤ 2 := by
  induction l generalizing before with
  | nil => simp [Sent.places]
  | cons x l ih =>
    intro p hp
    rcases List.mem_cons.mp hp with rfl | hp
    · exact x.place_le _ _ _
    · exact ih _ p hp

/-- The frames of the three places are the frames of the part, each as often as it is there. -/
theorem Sent.atPlace_perm (l : List (Nat × Sent)) (h : ∀ p ∈ l, p.1 ≤ 2) :
    (Sent.atPlace l 0 ++ Sent.atPlace l 1 ++ Sent.atPlace l 2).Perm (l.map Prod.snd) := by
  rw [List.perm_iff_count]
  intro x
  induction l with
  | nil => rfl
  | cons p l ih =>
    have := ih fun q hq => h q (List.mem_cons_of_mem _ hq)
    have hp := h p (List.mem_cons_self)
    obtain ⟨n, y⟩ := p
    simp only [Sent.atPlace, List.count_append, List.map_cons, List.filter_cons] at this ⊢
    have : n = 0 ∨ n = 1 ∨ n = 2 := by simp at hp; omega
    rcases this with rfl | rfl | rfl <;> simp [List.count_cons] <;> omega

/-- Frames of two parts leave in another order and no other: none is lost, added or sent twice. -/
theorem Sent.apart_perm (a b : List Sent) : (Sent.apart a b).Perm (a ++ b) := by
  rcases a with _ | ⟨y, a⟩
  · simp
  rcases b with _ | ⟨z, b⟩
  · simp
  have ha := Sent.atPlace_perm _ (Sent.places_le (z :: b) [] (y :: a))
  have hb := Sent.atPlace_perm _ (Sent.places_le [] [] (z :: b))
  rw [Sent.places_snd] at ha hb
  rw [List.perm_iff_count] at *
  intro x
  have h1 := ha x
  have h2 := hb x
  simp only [Sent.apart, List.count_append] at *
  omega

@[simp] theorem Sent.mem_apart (a b : List Sent) (x : Sent) : x ∈ Sent.apart a b ↔ x ∈ a ∨ x ∈ b := by
  rw [(Sent.apart_perm a b).mem_iff, List.mem_append]

theorem Sent.foldr_apart_perm (l : List (List Sent)) : (l.foldr Sent.apart []).Perm l.flatten := by
  induction l with
  | nil => exact .refl _
  | cons a l ih => exact (Sent.apart_perm a _).trans (ih.append_left a)

/-- The frames of a hand-out are those of its turns, each as often as it is there. -/
theorem Sent.inTurns_perm (job : List Sent) (turns : List (Bool × List Sent)) :
    (Sent.inTurns job turns).Perm (job ++ turns.flatMap Prod.snd) := by
  have h := ((Sent.apart_perm (job ++ (turns.filter fun p => p.1).flatMap Prod.snd) _).trans
    ((Sent.foldr_apart_perm ((turns.filter fun p => !p.1).map Prod.snd)).append_left _))
  refine h.trans ?_
  rw [List.append_assoc, ← List.flatMap_def, ← List.flatMap_append]
  exact ((List.filter_append_perm (fun p : Bool × List Sent => p.1) turns).flatMap_right _).append_left job

/-- A hand-out in which no frame is sent. -/
@[simp] theorem Sent.inTurns_silent (l : List Nat) : Sent.inTurns [] (l.map fun _ => (false, [])) = [] := by
  have h := (Sent.inTurns_perm [] (l.map fun _ => (false, []))).length_eq
  simpa using h

/-- Two parts apart do what they do one after the other, but for the order in which their frames leave. -/
theorem Ev.thenApart_eq (ev : Ev) (part next : Ev → Ev) :
    ev.thenApart part next = (next (part ev)).map fun s => { s with sent := (ev.thenApart part next).st.sent } := rfl

/-- Two parts apart, when each only sends more: what had left before the event stands, and the frames of both follow. -/
theorem Ev.thenApart_sent (ev : Ev) (part next : Ev → Ev) (a b : List Sent)
    (ha : (part ev).st.sent = ev.st.sent ++ a) (hb : (next (part ev)).st.sent = ev.st.sent ++ a ++ b) :
    (ev.thenApart part next).st.sent = ev.st.sent ++ Sent.apart a b := by
  have h : ((ev.st.sent ++ a ++ b).take (ev.st.sent ++ a).length).drop ev.st.sent.length = a := by
    rw [List.take_left, List.drop_left]
  show (next (part ev)).st.sent.take ev.st.sent.length ++ Sent.apart
    (((next (part ev)).st.sent.take (part ev).st.sent.length).drop ev.st.sent.length)
    ((next (part ev)).st.sent.drop (part ev).st.sent.length) = _
  rw [hb, ha, h, List.drop_left, List.append_assoc, List.take_left]

end Sys2Proof.Machine
end

