-- ==== Sys2Proof/Laws/Table.lean ====
section
/-! SUPPORT. Laws of sparse tables: read after write, frame, canonical form. -/

namespace Sys2Proof.Machine

variable {α : Type}

@[simp] theorem Table.find?_nil (k : Nat) : Table.find? ([] : Table α) k = none := rfl

theorem Table.find?_erase_same (t : Table α) (k : Nat) : Table.find? (Table.erase t k) k = none := by
  induction t with
  | nil => rfl
  | cons p rest ih =>
    obtain ⟨i, x⟩ := p
    by_cases h : i = k
    · simpa [Table.erase, h] using ih
    · have : Table.erase ((i, x) :: rest) k = (i, x) :: Table.erase rest k := by
        simp [Table.erase, h]
      simp [this, Table.find?, h, ih]

theorem Table.find?_erase_ne (t : Table α) {k j : Nat} (h : j ≠ k) :
    Table.find? (Table.erase t k) j = Table.find? t j := by
  induction t with
  | nil => rfl
  | cons p rest ih =>
    obtain ⟨i, x⟩ := p
    by_cases hi : i = k
    · have : Table.erase ((i, x) :: rest) k = Table.erase rest k := by
        simp [Table.erase, hi]
      have hj : i ≠ j := by omega
      simp [this, Table.find?, hj, ih]
    · have : Table.erase ((i, x) :: rest) k = (i, x) :: Table.erase rest k := by
        simp [Table.erase, hi]
      simp [this, Table.find?, ih]

theorem Table.find?_place_same (t : Table α) (k : Nat) (x : α) (h : Table.find? t k = none) :
    Table.find? (Table.place k x t) k = some x := by
  induction t with
  | nil => simp [Table.place, Table.find?]
  | cons p rest ih =>
    obtain ⟨i, y⟩ := p
    by_cases hi : i = k
    · simp [Table.find?, hi] at h
    · by_cases hk : k < i
      · simp [Table.place, Table.find?, hk]
      · simp only [Table.find?, hi, if_false] at h
        simp [Table.place, Table.find?, hk, hi, ih h]

theorem Table.find?_place_ne (t : Table α) {k j : Nat} (x : α) (h : j ≠ k) :
    Table.find? (Table.place k x t) j = Table.find? t j := by
  induction t with
  | nil => simp [Table.place, Table.find?, Ne.symm h]
  | cons p rest ih =>
    obtain ⟨i, y⟩ := p
    by_cases hk : k < i
    · simp [Table.place, Table.find?, hk, Ne.symm h]
    · simp [Table.place, Table.find?, hk, ih]

@[simp] theorem Table.find?_insert_same (t : Table α) (k : Nat) (x : α) :
    Table.find? (Table.insert t k x) k = some x :=
  Table.find?_place_same _ _ _ (Table.find?_erase_same t k)

theorem Table.find?_insert_ne (t : Table α) {k j : Nat} (x : α) (h : j ≠ k) :
    Table.find? (Table.insert t k x) j = Table.find? t j := by
  rw [Table.insert, Table.find?_place_ne _ _ h, Table.find?_erase_ne _ h]

variable [DecidableEq α]

@[simp] theorem Table.get_put_same (d : α) (t : Table α) (k : Nat) (x : α) :
    Table.get d (Table.put d t k x) k = x := by
  by_cases h : x = d
  · simp [Table.put, Table.get, h, Table.find?_erase_same]
  · simp [Table.put, Table.get, h]

theorem Table.get_put_ne (d : α) (t : Table α) {k j : Nat} (x : α) (h : j ≠ k) :
    Table.get d (Table.put d t k x) j = Table.get d t j := by
  by_cases hx : x = d
  · simp [Table.put, Table.get, hx, Table.find?_erase_ne _ h]
  · simp [Table.put, Table.get, hx, Table.find?_insert_ne _ _ h]

omit [DecidableEq α] in
theorem Table.mem_erase {t : Table α} {k : Nat} {p : Nat × α} (h : p ∈ Table.erase t k) : p ∈ t ∧ p.1 ≠ k := by
  simpa [Table.erase] using h

omit [DecidableEq α] in
theorem Table.sorted_erase (t : Table α) (k : Nat) (h : Table.sorted t) : Table.sorted (Table.erase t k) := by
  induction t with
  | nil => rfl
  | cons p rest ih =>
    obtain ⟨i, x⟩ := p
    simp only [Table.sorted, Bool.and_eq_true, List.all_eq_true, decide_eq_true_eq] at h
    by_cases hi : i = k
    · have : Table.erase ((i, x) :: rest) k = Table.erase rest k := by
        simp [Table.erase, hi]
      rw [this]; exact ih h.2
    · have : Table.erase ((i, x) :: rest) k = (i, x) :: Table.erase rest k := by
        simp [Table.erase, hi]
      simp only [this, Table.sorted, Bool.and_eq_true, List.all_eq_true, decide_eq_true_eq]
      exact ⟨fun p hp => h.1 p (Table.mem_erase hp).1, ih h.2⟩

omit [DecidableEq α] in
theorem Table.mem_place {t : Table α} {k : Nat} {x : α} {p : Nat × α} :
    p ∈ Table.place k x t ↔ p = (k, x) ∨ p ∈ t := by
  induction t with
  | nil => simp [Table.place]
  | cons q rest ih =>
    obtain ⟨i, y⟩ := q
    by_cases hk : k < i
    · simp [Table.place, hk]
    · simp only [Table.place, hk, if_false, List.mem_cons, ih]
      tauto

omit [DecidableEq α] in
theorem Table.sorted_place (t : Table α) (k : Nat) (x : α) (h : Table.sorted t) (hk : ∀ p ∈ t, p.1 ≠ k) :
    Table.sorted (Table.place k x t) := by
  induction t with
  | nil => rfl
  | cons q rest ih =>
    obtain ⟨i, y⟩ := q
    simp only [Table.sorted, Bool.and_eq_true, List.all_eq_true, decide_eq_true_eq] at h
    have hik : i ≠ k := hk (i, y) (by simp)
    by_cases hlt : k < i
    · simp only [Table.place, hlt, if_true, Table.sorted, Bool.and_eq_true, List.all_eq_true,
        decide_eq_true_eq, List.mem_cons]
      refine ⟨?_, h⟩
      rintro p (rfl | hp)
      · exact hlt
      · have := h.1 p hp; omega
    · simp only [Table.place, hlt, if_false, Table.sorted, Bool.and_eq_true, List.all_eq_true, decide_eq_true_eq]
      refine ⟨?_, ih h.2 fun p hp => hk p (by simp [hp])⟩
      intro p hp
      rcases Table.mem_place.mp hp with rfl | hp
      · simp only; omega
      · exact h.1 p hp

omit [DecidableEq α] in
theorem Table.sorted_insert (t : Table α) (k : Nat) (x : α) (h : Table.sorted t) :
    Table.sorted (Table.insert t k x) :=
  Table.sorted_place _ _ _ (Table.sorted_erase t k h) fun _ hp => (Table.mem_erase hp).2

/-- A write keeps the canonical form. -/
theorem Table.canonical_put (d : α) (t : Table α) (k : Nat) (x : α) (h : Table.canonical d t) :
    Table.canonical d (Table.put d t k x) := by
  simp only [Table.canonical, Bool.and_eq_true, List.all_eq_true, decide_eq_true_eq] at h ⊢
  by_cases hx : x = d
  · simp only [Table.put, hx, if_true]
    exact ⟨Table.sorted_erase t k h.1, fun p hp => h.2 p (Table.mem_erase hp).1⟩
  · simp only [Table.put, hx, if_false]
    refine ⟨Table.sorted_insert t k x h.1, fun p hp => ?_⟩
    rcases Table.mem_place.mp hp with rfl | hp
    · exact hx
    · exact h.2 p (Table.mem_erase hp).1

end Sys2Proof.Machine
end

