-- ==== Sys2Proof/Laws/State.lean ====
section
/-! SUPPORT. The field lemmas of the named updates of State: what an update leaves, and what it reads back as. -/

namespace Sys2Proof.Machine

variable (s : State)

/-! `State.setHead` -/

@[simp] theorem State.setHead_shelves (h : Head) (x : HeadRec) : (s.setHead h x).shelves = s.shelves := rfl
@[simp] theorem State.setHead_startCause (h : Head) (x : HeadRec) : (s.setHead h x).startCause = s.startCause := rfl
@[simp] theorem State.setHead_volumes (h : Head) (x : HeadRec) : (s.setHead h x).volumes = s.volumes := rfl
@[simp] theorem State.setHead_families (h : Head) (x : HeadRec) : (s.setHead h x).families = s.families := rfl
@[simp] theorem State.setHead_tenants (h : Head) (x : HeadRec) : (s.setHead h x).tenants = s.tenants := rfl
@[simp] theorem State.setHead_poolFree (h : Head) (x : HeadRec) : (s.setHead h x).poolFree = s.poolFree := rfl
@[simp] theorem State.setHead_reserved (h : Head) (x : HeadRec) : (s.setHead h x).reserved = s.reserved := rfl
@[simp] theorem State.setHead_pin (h : Head) (x : HeadRec) : (s.setHead h x).pin = s.pin := rfl
@[simp] theorem State.setHead_jobs (h : Head) (x : HeadRec) : (s.setHead h x).jobs = s.jobs := rfl
@[simp] theorem State.setHead_nextJob (h : Head) (x : HeadRec) : (s.setHead h x).nextJob = s.nextJob := rfl
@[simp] theorem State.setHead_jobWait (h : Head) (x : HeadRec) : (s.setHead h x).jobWait = s.jobWait := rfl
@[simp] theorem State.setHead_pause (h : Head) (x : HeadRec) : (s.setHead h x).pause = s.pause := rfl
@[simp] theorem State.setHead_grants (h : Head) (x : HeadRec) : (s.setHead h x).grants = s.grants := rfl
@[simp] theorem State.setHead_reclaim (h : Head) (x : HeadRec) : (s.setHead h x).reclaim = s.reclaim := rfl
@[simp] theorem State.setHead_revs (h : Head) (x : HeadRec) : (s.setHead h x).revs = s.revs := rfl
@[simp] theorem State.setHead_passes (h : Head) (x : HeadRec) : (s.setHead h x).passes = s.passes := rfl
@[simp] theorem State.setHead_cows (h : Head) (x : HeadRec) : (s.setHead h x).cows = s.cows := rfl
@[simp] theorem State.setHead_held (h : Head) (x : HeadRec) : (s.setHead h x).held = s.held := rfl
@[simp] theorem State.setHead_replies (h : Head) (x : HeadRec) : (s.setHead h x).replies = s.replies := rfl
@[simp] theorem State.setHead_heldSeq (h : Head) (x : HeadRec) : (s.setHead h x).heldSeq = s.heldSeq := rfl
@[simp] theorem State.setHead_passSeq (h : Head) (x : HeadRec) : (s.setHead h x).passSeq = s.passSeq := rfl
@[simp] theorem State.setHead_replySeq (h : Head) (x : HeadRec) : (s.setHead h x).replySeq = s.replySeq := rfl
@[simp] theorem State.setHead_pageDraws (h : Head) (x : HeadRec) : (s.setHead h x).pageDraws = s.pageDraws := rfl
@[simp] theorem State.setHead_now (h : Head) (x : HeadRec) : (s.setHead h x).now = s.now := rfl
@[simp] theorem State.setHead_sent (h : Head) (x : HeadRec) : (s.setHead h x).sent = s.sent := rfl
@[simp] theorem State.setHead_pending (h : Head) (x : HeadRec) : (s.setHead h x).pending = s.pending := rfl

/-! `State.updHead` -/

@[simp] theorem State.updHead_shelves (h : Head) (f : HeadRec → HeadRec) : (s.updHead h f).shelves = s.shelves := rfl
@[simp] theorem State.updHead_startCause (h : Head) (f : HeadRec → HeadRec) : (s.updHead h f).startCause = s.startCause := rfl
@[simp] theorem State.updHead_volumes (h : Head) (f : HeadRec → HeadRec) : (s.updHead h f).volumes = s.volumes := rfl
@[simp] theorem State.updHead_families (h : Head) (f : HeadRec → HeadRec) : (s.updHead h f).families = s.families := rfl
@[simp] theorem State.updHead_tenants (h : Head) (f : HeadRec → HeadRec) : (s.updHead h f).tenants = s.tenants := rfl
@[simp] theorem State.updHead_poolFree (h : Head) (f : HeadRec → HeadRec) : (s.updHead h f).poolFree = s.poolFree := rfl
@[simp] theorem State.updHead_reserved (h : Head) (f : HeadRec → HeadRec) : (s.updHead h f).reserved = s.reserved := rfl
@[simp] theorem State.updHead_pin (h : Head) (f : HeadRec → HeadRec) : (s.updHead h f).pin = s.pin := rfl
@[simp] theorem State.updHead_jobs (h : Head) (f : HeadRec → HeadRec) : (s.updHead h f).jobs = s.jobs := rfl
@[simp] theorem State.updHead_nextJob (h : Head) (f : HeadRec → HeadRec) : (s.updHead h f).nextJob = s.nextJob := rfl
@[simp] theorem State.updHead_jobWait (h : Head) (f : HeadRec → HeadRec) : (s.updHead h f).jobWait = s.jobWait := rfl
@[simp] theorem State.updHead_pause (h : Head) (f : HeadRec → HeadRec) : (s.updHead h f).pause = s.pause := rfl
@[simp] theorem State.updHead_grants (h : Head) (f : HeadRec → HeadRec) : (s.updHead h f).grants = s.grants := rfl
@[simp] theorem State.updHead_reclaim (h : Head) (f : HeadRec → HeadRec) : (s.updHead h f).reclaim = s.reclaim := rfl
@[simp] theorem State.updHead_revs (h : Head) (f : HeadRec → HeadRec) : (s.updHead h f).revs = s.revs := rfl
@[simp] theorem State.updHead_passes (h : Head) (f : HeadRec → HeadRec) : (s.updHead h f).passes = s.passes := rfl
@[simp] theorem State.updHead_cows (h : Head) (f : HeadRec → HeadRec) : (s.updHead h f).cows = s.cows := rfl
@[simp] theorem State.updHead_held (h : Head) (f : HeadRec → HeadRec) : (s.updHead h f).held = s.held := rfl
@[simp] theorem State.updHead_replies (h : Head) (f : HeadRec → HeadRec) : (s.updHead h f).replies = s.replies := rfl
@[simp] theorem State.updHead_heldSeq (h : Head) (f : HeadRec → HeadRec) : (s.updHead h f).heldSeq = s.heldSeq := rfl
@[simp] theorem State.updHead_passSeq (h : Head) (f : HeadRec → HeadRec) : (s.updHead h f).passSeq = s.passSeq := rfl
@[simp] theorem State.updHead_replySeq (h : Head) (f : HeadRec → HeadRec) : (s.updHead h f).replySeq = s.replySeq := rfl
@[simp] theorem State.updHead_pageDraws (h : Head) (f : HeadRec → HeadRec) : (s.updHead h f).pageDraws = s.pageDraws := rfl
@[simp] theorem State.updHead_now (h : Head) (f : HeadRec → HeadRec) : (s.updHead h f).now = s.now := rfl
@[simp] theorem State.updHead_sent (h : Head) (f : HeadRec → HeadRec) : (s.updHead h f).sent = s.sent := rfl
@[simp] theorem State.updHead_pending (h : Head) (f : HeadRec → HeadRec) : (s.updHead h f).pending = s.pending := rfl

/-! `State.setShelf` -/

@[simp] theorem State.setShelf_heads (k : ShelfNo) (x : Shelf) : (s.setShelf k x).heads = s.heads := rfl
@[simp] theorem State.setShelf_startCause (k : ShelfNo) (x : Shelf) : (s.setShelf k x).startCause = s.startCause := rfl
@[simp] theorem State.setShelf_volumes (k : ShelfNo) (x : Shelf) : (s.setShelf k x).volumes = s.volumes := rfl
@[simp] theorem State.setShelf_families (k : ShelfNo) (x : Shelf) : (s.setShelf k x).families = s.families := rfl
@[simp] theorem State.setShelf_tenants (k : ShelfNo) (x : Shelf) : (s.setShelf k x).tenants = s.tenants := rfl
@[simp] theorem State.setShelf_poolFree (k : ShelfNo) (x : Shelf) : (s.setShelf k x).poolFree = s.poolFree := rfl
@[simp] theorem State.setShelf_reserved (k : ShelfNo) (x : Shelf) : (s.setShelf k x).reserved = s.reserved := rfl
@[simp] theorem State.setShelf_pin (k : ShelfNo) (x : Shelf) : (s.setShelf k x).pin = s.pin := rfl
@[simp] theorem State.setShelf_jobs (k : ShelfNo) (x : Shelf) : (s.setShelf k x).jobs = s.jobs := rfl
@[simp] theorem State.setShelf_nextJob (k : ShelfNo) (x : Shelf) : (s.setShelf k x).nextJob = s.nextJob := rfl
@[simp] theorem State.setShelf_jobWait (k : ShelfNo) (x : Shelf) : (s.setShelf k x).jobWait = s.jobWait := rfl
@[simp] theorem State.setShelf_pause (k : ShelfNo) (x : Shelf) : (s.setShelf k x).pause = s.pause := rfl
@[simp] theorem State.setShelf_grants (k : ShelfNo) (x : Shelf) : (s.setShelf k x).grants = s.grants := rfl
@[simp] theorem State.setShelf_reclaim (k : ShelfNo) (x : Shelf) : (s.setShelf k x).reclaim = s.reclaim := rfl
@[simp] theorem State.setShelf_revs (k : ShelfNo) (x : Shelf) : (s.setShelf k x).revs = s.revs := rfl
@[simp] theorem State.setShelf_passes (k : ShelfNo) (x : Shelf) : (s.setShelf k x).passes = s.passes := rfl
@[simp] theorem State.setShelf_cows (k : ShelfNo) (x : Shelf) : (s.setShelf k x).cows = s.cows := rfl
@[simp] theorem State.setShelf_held (k : ShelfNo) (x : Shelf) : (s.setShelf k x).held = s.held := rfl
@[simp] theorem State.setShelf_replies (k : ShelfNo) (x : Shelf) : (s.setShelf k x).replies = s.replies := rfl
@[simp] theorem State.setShelf_heldSeq (k : ShelfNo) (x : Shelf) : (s.setShelf k x).heldSeq = s.heldSeq := rfl
@[simp] theorem State.setShelf_passSeq (k : ShelfNo) (x : Shelf) : (s.setShelf k x).passSeq = s.passSeq := rfl
@[simp] theorem State.setShelf_replySeq (k : ShelfNo) (x : Shelf) : (s.setShelf k x).replySeq = s.replySeq := rfl
@[simp] theorem State.setShelf_pageDraws (k : ShelfNo) (x : Shelf) : (s.setShelf k x).pageDraws = s.pageDraws := rfl
@[simp] theorem State.setShelf_now (k : ShelfNo) (x : Shelf) : (s.setShelf k x).now = s.now := rfl
@[simp] theorem State.setShelf_sent (k : ShelfNo) (x : Shelf) : (s.setShelf k x).sent = s.sent := rfl
@[simp] theorem State.setShelf_pending (k : ShelfNo) (x : Shelf) : (s.setShelf k x).pending = s.pending := rfl

/-! `State.updShelf` -/

@[simp] theorem State.updShelf_heads (k : ShelfNo) (f : Shelf → Shelf) : (s.updShelf k f).heads = s.heads := rfl
@[simp] theorem State.updShelf_startCause (k : ShelfNo) (f : Shelf → Shelf) : (s.updShelf k f).startCause = s.startCause := rfl
@[simp] theorem State.updShelf_volumes (k : ShelfNo) (f : Shelf → Shelf) : (s.updShelf k f).volumes = s.volumes := rfl
@[simp] theorem State.updShelf_families (k : ShelfNo) (f : Shelf → Shelf) : (s.updShelf k f).families = s.families := rfl
@[simp] theorem State.updShelf_tenants (k : ShelfNo) (f : Shelf → Shelf) : (s.updShelf k f).tenants = s.tenants := rfl
@[simp] theorem State.updShelf_poolFree (k : ShelfNo) (f : Shelf → Shelf) : (s.updShelf k f).poolFree = s.poolFree := rfl
@[simp] theorem State.updShelf_reserved (k : ShelfNo) (f : Shelf → Shelf) : (s.updShelf k f).reserved = s.reserved := rfl
@[simp] theorem State.updShelf_pin (k : ShelfNo) (f : Shelf → Shelf) : (s.updShelf k f).pin = s.pin := rfl
@[simp] theorem State.updShelf_jobs (k : ShelfNo) (f : Shelf → Shelf) : (s.updShelf k f).jobs = s.jobs := rfl
@[simp] theorem State.updShelf_nextJob (k : ShelfNo) (f : Shelf → Shelf) : (s.updShelf k f).nextJob = s.nextJob := rfl
@[simp] theorem State.updShelf_jobWait (k : ShelfNo) (f : Shelf → Shelf) : (s.updShelf k f).jobWait = s.jobWait := rfl
@[simp] theorem State.updShelf_pause (k : ShelfNo) (f : Shelf → Shelf) : (s.updShelf k f).pause = s.pause := rfl
@[simp] theorem State.updShelf_grants (k : ShelfNo) (f : Shelf → Shelf) : (s.updShelf k f).grants = s.grants := rfl
@[simp] theorem State.updShelf_reclaim (k : ShelfNo) (f : Shelf → Shelf) : (s.updShelf k f).reclaim = s.reclaim := rfl
@[simp] theorem State.updShelf_revs (k : ShelfNo) (f : Shelf → Shelf) : (s.updShelf k f).revs = s.revs := rfl
@[simp] theorem State.updShelf_passes (k : ShelfNo) (f : Shelf → Shelf) : (s.updShelf k f).passes = s.passes := rfl
@[simp] theorem State.updShelf_cows (k : ShelfNo) (f : Shelf → Shelf) : (s.updShelf k f).cows = s.cows := rfl
@[simp] theorem State.updShelf_held (k : ShelfNo) (f : Shelf → Shelf) : (s.updShelf k f).held = s.held := rfl
@[simp] theorem State.updShelf_replies (k : ShelfNo) (f : Shelf → Shelf) : (s.updShelf k f).replies = s.replies := rfl
@[simp] theorem State.updShelf_heldSeq (k : ShelfNo) (f : Shelf → Shelf) : (s.updShelf k f).heldSeq = s.heldSeq := rfl
@[simp] theorem State.updShelf_passSeq (k : ShelfNo) (f : Shelf → Shelf) : (s.updShelf k f).passSeq = s.passSeq := rfl
@[simp] theorem State.updShelf_replySeq (k : ShelfNo) (f : Shelf → Shelf) : (s.updShelf k f).replySeq = s.replySeq := rfl
@[simp] theorem State.updShelf_pageDraws (k : ShelfNo) (f : Shelf → Shelf) : (s.updShelf k f).pageDraws = s.pageDraws := rfl
@[simp] theorem State.updShelf_now (k : ShelfNo) (f : Shelf → Shelf) : (s.updShelf k f).now = s.now := rfl
@[simp] theorem State.updShelf_sent (k : ShelfNo) (f : Shelf → Shelf) : (s.updShelf k f).sent = s.sent := rfl
@[simp] theorem State.updShelf_pending (k : ShelfNo) (f : Shelf → Shelf) : (s.updShelf k f).pending = s.pending := rfl

/-! `State.setVolume` -/

@[simp] theorem State.setVolume_heads (v : Nat) (x : Volume) : (s.setVolume v x).heads = s.heads := rfl
@[simp] theorem State.setVolume_shelves (v : Nat) (x : Volume) : (s.setVolume v x).shelves = s.shelves := rfl
@[simp] theorem State.setVolume_startCause (v : Nat) (x : Volume) : (s.setVolume v x).startCause = s.startCause := rfl
@[simp] theorem State.setVolume_families (v : Nat) (x : Volume) : (s.setVolume v x).families = s.families := rfl
@[simp] theorem State.setVolume_tenants (v : Nat) (x : Volume) : (s.setVolume v x).tenants = s.tenants := rfl
@[simp] theorem State.setVolume_poolFree (v : Nat) (x : Volume) : (s.setVolume v x).poolFree = s.poolFree := rfl
@[simp] theorem State.setVolume_reserved (v : Nat) (x : Volume) : (s.setVolume v x).reserved = s.reserved := rfl
@[simp] theorem State.setVolume_pin (v : Nat) (x : Volume) : (s.setVolume v x).pin = s.pin := rfl
@[simp] theorem State.setVolume_jobs (v : Nat) (x : Volume) : (s.setVolume v x).jobs = s.jobs := rfl
@[simp] theorem State.setVolume_nextJob (v : Nat) (x : Volume) : (s.setVolume v x).nextJob = s.nextJob := rfl
@[simp] theorem State.setVolume_jobWait (v : Nat) (x : Volume) : (s.setVolume v x).jobWait = s.jobWait := rfl
@[simp] theorem State.setVolume_pause (v : Nat) (x : Volume) : (s.setVolume v x).pause = s.pause := rfl
@[simp] theorem State.setVolume_grants (v : Nat) (x : Volume) : (s.setVolume v x).grants = s.grants := rfl
@[simp] theorem State.setVolume_reclaim (v : Nat) (x : Volume) : (s.setVolume v x).reclaim = s.reclaim := rfl
@[simp] theorem State.setVolume_revs (v : Nat) (x : Volume) : (s.setVolume v x).revs = s.revs := rfl
@[simp] theorem State.setVolume_passes (v : Nat) (x : Volume) : (s.setVolume v x).passes = s.passes := rfl
@[simp] theorem State.setVolume_cows (v : Nat) (x : Volume) : (s.setVolume v x).cows = s.cows := rfl
@[simp] theorem State.setVolume_held (v : Nat) (x : Volume) : (s.setVolume v x).held = s.held := rfl
@[simp] theorem State.setVolume_replies (v : Nat) (x : Volume) : (s.setVolume v x).replies = s.replies := rfl
@[simp] theorem State.setVolume_heldSeq (v : Nat) (x : Volume) : (s.setVolume v x).heldSeq = s.heldSeq := rfl
@[simp] theorem State.setVolume_passSeq (v : Nat) (x : Volume) : (s.setVolume v x).passSeq = s.passSeq := rfl
@[simp] theorem State.setVolume_replySeq (v : Nat) (x : Volume) : (s.setVolume v x).replySeq = s.replySeq := rfl
@[simp] theorem State.setVolume_pageDraws (v : Nat) (x : Volume) : (s.setVolume v x).pageDraws = s.pageDraws := rfl
@[simp] theorem State.setVolume_now (v : Nat) (x : Volume) : (s.setVolume v x).now = s.now := rfl
@[simp] theorem State.setVolume_sent (v : Nat) (x : Volume) : (s.setVolume v x).sent = s.sent := rfl
@[simp] theorem State.setVolume_pending (v : Nat) (x : Volume) : (s.setVolume v x).pending = s.pending := rfl

/-! `State.updVolume` -/

@[simp] theorem State.updVolume_heads (v : Nat) (f : Volume → Volume) : (s.updVolume v f).heads = s.heads := rfl
@[simp] theorem State.updVolume_shelves (v : Nat) (f : Volume → Volume) : (s.updVolume v f).shelves = s.shelves := rfl
@[simp] theorem State.updVolume_startCause (v : Nat) (f : Volume → Volume) : (s.updVolume v f).startCause = s.startCause := rfl
@[simp] theorem State.updVolume_families (v : Nat) (f : Volume → Volume) : (s.updVolume v f).families = s.families := rfl
@[simp] theorem State.updVolume_tenants (v : Nat) (f : Volume → Volume) : (s.updVolume v f).tenants = s.tenants := rfl
@[simp] theorem State.updVolume_poolFree (v : Nat) (f : Volume → Volume) : (s.updVolume v f).poolFree = s.poolFree := rfl
@[simp] theorem State.updVolume_reserved (v : Nat) (f : Volume → Volume) : (s.updVolume v f).reserved = s.reserved := rfl
@[simp] theorem State.updVolume_pin (v : Nat) (f : Volume → Volume) : (s.updVolume v f).pin = s.pin := rfl
@[simp] theorem State.updVolume_jobs (v : Nat) (f : Volume → Volume) : (s.updVolume v f).jobs = s.jobs := rfl
@[simp] theorem State.updVolume_nextJob (v : Nat) (f : Volume → Volume) : (s.updVolume v f).nextJob = s.nextJob := rfl
@[simp] theorem State.updVolume_jobWait (v : Nat) (f : Volume → Volume) : (s.updVolume v f).jobWait = s.jobWait := rfl
@[simp] theorem State.updVolume_pause (v : Nat) (f : Volume → Volume) : (s.updVolume v f).pause = s.pause := rfl
@[simp] theorem State.updVolume_grants (v : Nat) (f : Volume → Volume) : (s.updVolume v f).grants = s.grants := rfl
@[simp] theorem State.updVolume_reclaim (v : Nat) (f : Volume → Volume) : (s.updVolume v f).reclaim = s.reclaim := rfl
@[simp] theorem State.updVolume_revs (v : Nat) (f : Volume → Volume) : (s.updVolume v f).revs = s.revs := rfl
@[simp] theorem State.updVolume_passes (v : Nat) (f : Volume → Volume) : (s.updVolume v f).passes = s.passes := rfl
@[simp] theorem State.updVolume_cows (v : Nat) (f : Volume → Volume) : (s.updVolume v f).cows = s.cows := rfl
@[simp] theorem State.updVolume_held (v : Nat) (f : Volume → Volume) : (s.updVolume v f).held = s.held := rfl
@[simp] theorem State.updVolume_replies (v : Nat) (f : Volume → Volume) : (s.updVolume v f).replies = s.replies := rfl
@[simp] theorem State.updVolume_heldSeq (v : Nat) (f : Volume → Volume) : (s.updVolume v f).heldSeq = s.heldSeq := rfl
@[simp] theorem State.updVolume_passSeq (v : Nat) (f : Volume → Volume) : (s.updVolume v f).passSeq = s.passSeq := rfl
@[simp] theorem State.updVolume_replySeq (v : Nat) (f : Volume → Volume) : (s.updVolume v f).replySeq = s.replySeq := rfl
@[simp] theorem State.updVolume_pageDraws (v : Nat) (f : Volume → Volume) : (s.updVolume v f).pageDraws = s.pageDraws := rfl
@[simp] theorem State.updVolume_now (v : Nat) (f : Volume → Volume) : (s.updVolume v f).now = s.now := rfl
@[simp] theorem State.updVolume_sent (v : Nat) (f : Volume → Volume) : (s.updVolume v f).sent = s.sent := rfl
@[simp] theorem State.updVolume_pending (v : Nat) (f : Volume → Volume) : (s.updVolume v f).pending = s.pending := rfl

/-! `State.updTenant` -/

@[simp] theorem State.updTenant_heads (n : Nat) (f : Tenant → Tenant) : (s.updTenant n f).heads = s.heads := rfl
@[simp] theorem State.updTenant_shelves (n : Nat) (f : Tenant → Tenant) : (s.updTenant n f).shelves = s.shelves := rfl
@[simp] theorem State.updTenant_startCause (n : Nat) (f : Tenant → Tenant) : (s.updTenant n f).startCause = s.startCause := rfl
@[simp] theorem State.updTenant_volumes (n : Nat) (f : Tenant → Tenant) : (s.updTenant n f).volumes = s.volumes := rfl
@[simp] theorem State.updTenant_families (n : Nat) (f : Tenant → Tenant) : (s.updTenant n f).families = s.families := rfl
@[simp] theorem State.updTenant_poolFree (n : Nat) (f : Tenant → Tenant) : (s.updTenant n f).poolFree = s.poolFree := rfl
@[simp] theorem State.updTenant_reserved (n : Nat) (f : Tenant → Tenant) : (s.updTenant n f).reserved = s.reserved := rfl
@[simp] theorem State.updTenant_pin (n : Nat) (f : Tenant → Tenant) : (s.updTenant n f).pin = s.pin := rfl
@[simp] theorem State.updTenant_jobs (n : Nat) (f : Tenant → Tenant) : (s.updTenant n f).jobs = s.jobs := rfl
@[simp] theorem State.updTenant_nextJob (n : Nat) (f : Tenant → Tenant) : (s.updTenant n f).nextJob = s.nextJob := rfl
@[simp] theorem State.updTenant_jobWait (n : Nat) (f : Tenant → Tenant) : (s.updTenant n f).jobWait = s.jobWait := rfl
@[simp] theorem State.updTenant_pause (n : Nat) (f : Tenant → Tenant) : (s.updTenant n f).pause = s.pause := rfl
@[simp] theorem State.updTenant_grants (n : Nat) (f : Tenant → Tenant) : (s.updTenant n f).grants = s.grants := rfl
@[simp] theorem State.updTenant_reclaim (n : Nat) (f : Tenant → Tenant) : (s.updTenant n f).reclaim = s.reclaim := rfl
@[simp] theorem State.updTenant_revs (n : Nat) (f : Tenant → Tenant) : (s.updTenant n f).revs = s.revs := rfl
@[simp] theorem State.updTenant_passes (n : Nat) (f : Tenant → Tenant) : (s.updTenant n f).passes = s.passes := rfl
@[simp] theorem State.updTenant_cows (n : Nat) (f : Tenant → Tenant) : (s.updTenant n f).cows = s.cows := rfl
@[simp] theorem State.updTenant_held (n : Nat) (f : Tenant → Tenant) : (s.updTenant n f).held = s.held := rfl
@[simp] theorem State.updTenant_replies (n : Nat) (f : Tenant → Tenant) : (s.updTenant n f).replies = s.replies := rfl
@[simp] theorem State.updTenant_heldSeq (n : Nat) (f : Tenant → Tenant) : (s.updTenant n f).heldSeq = s.heldSeq := rfl
@[simp] theorem State.updTenant_passSeq (n : Nat) (f : Tenant → Tenant) : (s.updTenant n f).passSeq = s.passSeq := rfl
@[simp] theorem State.updTenant_replySeq (n : Nat) (f : Tenant → Tenant) : (s.updTenant n f).replySeq = s.replySeq := rfl
@[simp] theorem State.updTenant_pageDraws (n : Nat) (f : Tenant → Tenant) : (s.updTenant n f).pageDraws = s.pageDraws := rfl
@[simp] theorem State.updTenant_now (n : Nat) (f : Tenant → Tenant) : (s.updTenant n f).now = s.now := rfl
@[simp] theorem State.updTenant_sent (n : Nat) (f : Tenant → Tenant) : (s.updTenant n f).sent = s.sent := rfl
@[simp] theorem State.updTenant_pending (n : Nat) (f : Tenant → Tenant) : (s.updTenant n f).pending = s.pending := rfl

/-! `State.setFamily` -/

@[simp] theorem State.setFamily_heads (n c : Nat) : (s.setFamily n c).heads = s.heads := rfl
@[simp] theorem State.setFamily_shelves (n c : Nat) : (s.setFamily n c).shelves = s.shelves := rfl
@[simp] theorem State.setFamily_startCause (n c : Nat) : (s.setFamily n c).startCause = s.startCause := rfl
@[simp] theorem State.setFamily_volumes (n c : Nat) : (s.setFamily n c).volumes = s.volumes := rfl
@[simp] theorem State.setFamily_tenants (n c : Nat) : (s.setFamily n c).tenants = s.tenants := rfl
@[simp] theorem State.setFamily_poolFree (n c : Nat) : (s.setFamily n c).poolFree = s.poolFree := rfl
@[simp] theorem State.setFamily_reserved (n c : Nat) : (s.setFamily n c).reserved = s.reserved := rfl
@[simp] theorem State.setFamily_pin (n c : Nat) : (s.setFamily n c).pin = s.pin := rfl
@[simp] theorem State.setFamily_jobs (n c : Nat) : (s.setFamily n c).jobs = s.jobs := rfl
@[simp] theorem State.setFamily_nextJob (n c : Nat) : (s.setFamily n c).nextJob = s.nextJob := rfl
@[simp] theorem State.setFamily_jobWait (n c : Nat) : (s.setFamily n c).jobWait = s.jobWait := rfl
@[simp] theorem State.setFamily_pause (n c : Nat) : (s.setFamily n c).pause = s.pause := rfl
@[simp] theorem State.setFamily_grants (n c : Nat) : (s.setFamily n c).grants = s.grants := rfl
@[simp] theorem State.setFamily_reclaim (n c : Nat) : (s.setFamily n c).reclaim = s.reclaim := rfl
@[simp] theorem State.setFamily_revs (n c : Nat) : (s.setFamily n c).revs = s.revs := rfl
@[simp] theorem State.setFamily_passes (n c : Nat) : (s.setFamily n c).passes = s.passes := rfl
@[simp] theorem State.setFamily_cows (n c : Nat) : (s.setFamily n c).cows = s.cows := rfl
@[simp] theorem State.setFamily_held (n c : Nat) : (s.setFamily n c).held = s.held := rfl
@[simp] theorem State.setFamily_replies (n c : Nat) : (s.setFamily n c).replies = s.replies := rfl
@[simp] theorem State.setFamily_heldSeq (n c : Nat) : (s.setFamily n c).heldSeq = s.heldSeq := rfl
@[simp] theorem State.setFamily_passSeq (n c : Nat) : (s.setFamily n c).passSeq = s.passSeq := rfl
@[simp] theorem State.setFamily_replySeq (n c : Nat) : (s.setFamily n c).replySeq = s.replySeq := rfl
@[simp] theorem State.setFamily_pageDraws (n c : Nat) : (s.setFamily n c).pageDraws = s.pageDraws := rfl
@[simp] theorem State.setFamily_now (n c : Nat) : (s.setFamily n c).now = s.now := rfl
@[simp] theorem State.setFamily_sent (n c : Nat) : (s.setFamily n c).sent = s.sent := rfl
@[simp] theorem State.setFamily_pending (n c : Nat) : (s.setFamily n c).pending = s.pending := rfl

/-! `State.setEntry` -/

@[simp] theorem State.setEntry_heads (v e : Nat) (x : MapEntry) : (s.setEntry v e x).heads = s.heads := rfl
@[simp] theorem State.setEntry_shelves (v e : Nat) (x : MapEntry) : (s.setEntry v e x).shelves = s.shelves := rfl
@[simp] theorem State.setEntry_startCause (v e : Nat) (x : MapEntry) : (s.setEntry v e x).startCause = s.startCause := rfl
@[simp] theorem State.setEntry_families (v e : Nat) (x : MapEntry) : (s.setEntry v e x).families = s.families := rfl
@[simp] theorem State.setEntry_tenants (v e : Nat) (x : MapEntry) : (s.setEntry v e x).tenants = s.tenants := rfl
@[simp] theorem State.setEntry_poolFree (v e : Nat) (x : MapEntry) : (s.setEntry v e x).poolFree = s.poolFree := rfl
@[simp] theorem State.setEntry_reserved (v e : Nat) (x : MapEntry) : (s.setEntry v e x).reserved = s.reserved := rfl
@[simp] theorem State.setEntry_pin (v e : Nat) (x : MapEntry) : (s.setEntry v e x).pin = s.pin := rfl
@[simp] theorem State.setEntry_jobs (v e : Nat) (x : MapEntry) : (s.setEntry v e x).jobs = s.jobs := rfl
@[simp] theorem State.setEntry_nextJob (v e : Nat) (x : MapEntry) : (s.setEntry v e x).nextJob = s.nextJob := rfl
@[simp] theorem State.setEntry_jobWait (v e : Nat) (x : MapEntry) : (s.setEntry v e x).jobWait = s.jobWait := rfl
@[simp] theorem State.setEntry_pause (v e : Nat) (x : MapEntry) : (s.setEntry v e x).pause = s.pause := rfl
@[simp] theorem State.setEntry_grants (v e : Nat) (x : MapEntry) : (s.setEntry v e x).grants = s.grants := rfl
@[simp] theorem State.setEntry_reclaim (v e : Nat) (x : MapEntry) : (s.setEntry v e x).reclaim = s.reclaim := rfl
@[simp] theorem State.setEntry_revs (v e : Nat) (x : MapEntry) : (s.setEntry v e x).revs = s.revs := rfl
@[simp] theorem State.setEntry_passes (v e : Nat) (x : MapEntry) : (s.setEntry v e x).passes = s.passes := rfl
@[simp] theorem State.setEntry_cows (v e : Nat) (x : MapEntry) : (s.setEntry v e x).cows = s.cows := rfl
@[simp] theorem State.setEntry_held (v e : Nat) (x : MapEntry) : (s.setEntry v e x).held = s.held := rfl
@[simp] theorem State.setEntry_replies (v e : Nat) (x : MapEntry) : (s.setEntry v e x).replies = s.replies := rfl
@[simp] theorem State.setEntry_heldSeq (v e : Nat) (x : MapEntry) : (s.setEntry v e x).heldSeq = s.heldSeq := rfl
@[simp] theorem State.setEntry_passSeq (v e : Nat) (x : MapEntry) : (s.setEntry v e x).passSeq = s.passSeq := rfl
@[simp] theorem State.setEntry_replySeq (v e : Nat) (x : MapEntry) : (s.setEntry v e x).replySeq = s.replySeq := rfl
@[simp] theorem State.setEntry_pageDraws (v e : Nat) (x : MapEntry) : (s.setEntry v e x).pageDraws = s.pageDraws := rfl
@[simp] theorem State.setEntry_now (v e : Nat) (x : MapEntry) : (s.setEntry v e x).now = s.now := rfl
@[simp] theorem State.setEntry_sent (v e : Nat) (x : MapEntry) : (s.setEntry v e x).sent = s.sent := rfl
@[simp] theorem State.setEntry_pending (v e : Nat) (x : MapEntry) : (s.setEntry v e x).pending = s.pending := rfl

/-! `State.emit` -/

@[simp] theorem State.emit_heads (x : Sent) : (s.emit x).heads = s.heads := rfl
@[simp] theorem State.emit_shelves (x : Sent) : (s.emit x).shelves = s.shelves := rfl
@[simp] theorem State.emit_startCause (x : Sent) : (s.emit x).startCause = s.startCause := rfl
@[simp] theorem State.emit_volumes (x : Sent) : (s.emit x).volumes = s.volumes := rfl
@[simp] theorem State.emit_families (x : Sent) : (s.emit x).families = s.families := rfl
@[simp] theorem State.emit_tenants (x : Sent) : (s.emit x).tenants = s.tenants := rfl
@[simp] theorem State.emit_poolFree (x : Sent) : (s.emit x).poolFree = s.poolFree := rfl
@[simp] theorem State.emit_reserved (x : Sent) : (s.emit x).reserved = s.reserved := rfl
@[simp] theorem State.emit_pin (x : Sent) : (s.emit x).pin = s.pin := rfl
@[simp] theorem State.emit_jobs (x : Sent) : (s.emit x).jobs = s.jobs := rfl
@[simp] theorem State.emit_nextJob (x : Sent) : (s.emit x).nextJob = s.nextJob := rfl
@[simp] theorem State.emit_jobWait (x : Sent) : (s.emit x).jobWait = s.jobWait := rfl
@[simp] theorem State.emit_pause (x : Sent) : (s.emit x).pause = s.pause := rfl
@[simp] theorem State.emit_grants (x : Sent) : (s.emit x).grants = s.grants := rfl
@[simp] theorem State.emit_reclaim (x : Sent) : (s.emit x).reclaim = s.reclaim := rfl
@[simp] theorem State.emit_revs (x : Sent) : (s.emit x).revs = s.revs := rfl
@[simp] theorem State.emit_passes (x : Sent) : (s.emit x).passes = s.passes := rfl
@[simp] theorem State.emit_cows (x : Sent) : (s.emit x).cows = s.cows := rfl
@[simp] theorem State.emit_held (x : Sent) : (s.emit x).held = s.held := rfl
@[simp] theorem State.emit_replies (x : Sent) : (s.emit x).replies = s.replies := rfl
@[simp] theorem State.emit_heldSeq (x : Sent) : (s.emit x).heldSeq = s.heldSeq := rfl
@[simp] theorem State.emit_passSeq (x : Sent) : (s.emit x).passSeq = s.passSeq := rfl
@[simp] theorem State.emit_replySeq (x : Sent) : (s.emit x).replySeq = s.replySeq := rfl
@[simp] theorem State.emit_pageDraws (x : Sent) : (s.emit x).pageDraws = s.pageDraws := rfl
@[simp] theorem State.emit_now (x : Sent) : (s.emit x).now = s.now := rfl
@[simp] theorem State.emit_pending (x : Sent) : (s.emit x).pending = s.pending := rfl

/-! `State.openTag` -/

@[simp] theorem State.openTag_shelves (h : Head) (t : Tag) : (s.openTag h t).shelves = s.shelves := rfl
@[simp] theorem State.openTag_startCause (h : Head) (t : Tag) : (s.openTag h t).startCause = s.startCause := rfl
@[simp] theorem State.openTag_volumes (h : Head) (t : Tag) : (s.openTag h t).volumes = s.volumes := rfl
@[simp] theorem State.openTag_families (h : Head) (t : Tag) : (s.openTag h t).families = s.families := rfl
@[simp] theorem State.openTag_tenants (h : Head) (t : Tag) : (s.openTag h t).tenants = s.tenants := rfl
@[simp] theorem State.openTag_poolFree (h : Head) (t : Tag) : (s.openTag h t).poolFree = s.poolFree := rfl
@[simp] theorem State.openTag_reserved (h : Head) (t : Tag) : (s.openTag h t).reserved = s.reserved := rfl
@[simp] theorem State.openTag_pin (h : Head) (t : Tag) : (s.openTag h t).pin = s.pin := rfl
@[simp] theorem State.openTag_jobs (h : Head) (t : Tag) : (s.openTag h t).jobs = s.jobs := rfl
@[simp] theorem State.openTag_nextJob (h : Head) (t : Tag) : (s.openTag h t).nextJob = s.nextJob := rfl
@[simp] theorem State.openTag_jobWait (h : Head) (t : Tag) : (s.openTag h t).jobWait = s.jobWait := rfl
@[simp] theorem State.openTag_pause (h : Head) (t : Tag) : (s.openTag h t).pause = s.pause := rfl
@[simp] theorem State.openTag_grants (h : Head) (t : Tag) : (s.openTag h t).grants = s.grants := rfl
@[simp] theorem State.openTag_reclaim (h : Head) (t : Tag) : (s.openTag h t).reclaim = s.reclaim := rfl
@[simp] theorem State.openTag_revs (h : Head) (t : Tag) : (s.openTag h t).revs = s.revs := rfl
@[simp] theorem State.openTag_passes (h : Head) (t : Tag) : (s.openTag h t).passes = s.passes := rfl
@[simp] theorem State.openTag_cows (h : Head) (t : Tag) : (s.openTag h t).cows = s.cows := rfl
@[simp] theorem State.openTag_held (h : Head) (t : Tag) : (s.openTag h t).held = s.held := rfl
@[simp] theorem State.openTag_replies (h : Head) (t : Tag) : (s.openTag h t).replies = s.replies := rfl
@[simp] theorem State.openTag_heldSeq (h : Head) (t : Tag) : (s.openTag h t).heldSeq = s.heldSeq := rfl
@[simp] theorem State.openTag_passSeq (h : Head) (t : Tag) : (s.openTag h t).passSeq = s.passSeq := rfl
@[simp] theorem State.openTag_replySeq (h : Head) (t : Tag) : (s.openTag h t).replySeq = s.replySeq := rfl
@[simp] theorem State.openTag_pageDraws (h : Head) (t : Tag) : (s.openTag h t).pageDraws = s.pageDraws := rfl
@[simp] theorem State.openTag_now (h : Head) (t : Tag) : (s.openTag h t).now = s.now := rfl
@[simp] theorem State.openTag_sent (h : Head) (t : Tag) : (s.openTag h t).sent = s.sent := rfl
@[simp] theorem State.openTag_pending (h : Head) (t : Tag) : (s.openTag h t).pending = s.pending := rfl

/-! `State.freeTag` -/

@[simp] theorem State.freeTag_shelves (h : Head) (t : Tag) : (s.freeTag h t).shelves = s.shelves := rfl
@[simp] theorem State.freeTag_startCause (h : Head) (t : Tag) : (s.freeTag h t).startCause = s.startCause := rfl
@[simp] theorem State.freeTag_volumes (h : Head) (t : Tag) : (s.freeTag h t).volumes = s.volumes := rfl
@[simp] theorem State.freeTag_families (h : Head) (t : Tag) : (s.freeTag h t).families = s.families := rfl
@[simp] theorem State.freeTag_tenants (h : Head) (t : Tag) : (s.freeTag h t).tenants = s.tenants := rfl
@[simp] theorem State.freeTag_poolFree (h : Head) (t : Tag) : (s.freeTag h t).poolFree = s.poolFree := rfl
@[simp] theorem State.freeTag_reserved (h : Head) (t : Tag) : (s.freeTag h t).reserved = s.reserved := rfl
@[simp] theorem State.freeTag_pin (h : Head) (t : Tag) : (s.freeTag h t).pin = s.pin := rfl
@[simp] theorem State.freeTag_jobs (h : Head) (t : Tag) : (s.freeTag h t).jobs = s.jobs := rfl
@[simp] theorem State.freeTag_nextJob (h : Head) (t : Tag) : (s.freeTag h t).nextJob = s.nextJob := rfl
@[simp] theorem State.freeTag_jobWait (h : Head) (t : Tag) : (s.freeTag h t).jobWait = s.jobWait := rfl
@[simp] theorem State.freeTag_pause (h : Head) (t : Tag) : (s.freeTag h t).pause = s.pause := rfl
@[simp] theorem State.freeTag_grants (h : Head) (t : Tag) : (s.freeTag h t).grants = s.grants := rfl
@[simp] theorem State.freeTag_reclaim (h : Head) (t : Tag) : (s.freeTag h t).reclaim = s.reclaim := rfl
@[simp] theorem State.freeTag_revs (h : Head) (t : Tag) : (s.freeTag h t).revs = s.revs := rfl
@[simp] theorem State.freeTag_passes (h : Head) (t : Tag) : (s.freeTag h t).passes = s.passes := rfl
@[simp] theorem State.freeTag_cows (h : Head) (t : Tag) : (s.freeTag h t).cows = s.cows := rfl
@[simp] theorem State.freeTag_held (h : Head) (t : Tag) : (s.freeTag h t).held = s.held := rfl
@[simp] theorem State.freeTag_replies (h : Head) (t : Tag) : (s.freeTag h t).replies = s.replies := rfl
@[simp] theorem State.freeTag_heldSeq (h : Head) (t : Tag) : (s.freeTag h t).heldSeq = s.heldSeq := rfl
@[simp] theorem State.freeTag_passSeq (h : Head) (t : Tag) : (s.freeTag h t).passSeq = s.passSeq := rfl
@[simp] theorem State.freeTag_replySeq (h : Head) (t : Tag) : (s.freeTag h t).replySeq = s.replySeq := rfl
@[simp] theorem State.freeTag_pageDraws (h : Head) (t : Tag) : (s.freeTag h t).pageDraws = s.pageDraws := rfl
@[simp] theorem State.freeTag_now (h : Head) (t : Tag) : (s.freeTag h t).now = s.now := rfl
@[simp] theorem State.freeTag_sent (h : Head) (t : Tag) : (s.freeTag h t).sent = s.sent := rfl
@[simp] theorem State.freeTag_pending (h : Head) (t : Tag) : (s.freeTag h t).pending = s.pending := rfl

/-! `State.reply` -/

@[simp] theorem State.reply_shelves (h : Head) (t : Tag) (st : Status) (b : ReplyBody) : (s.reply h t st b).shelves = s.shelves := rfl
@[simp] theorem State.reply_startCause (h : Head) (t : Tag) (st : Status) (b : ReplyBody) : (s.reply h t st b).startCause = s.startCause := rfl
@[simp] theorem State.reply_volumes (h : Head) (t : Tag) (st : Status) (b : ReplyBody) : (s.reply h t st b).volumes = s.volumes := rfl
@[simp] theorem State.reply_families (h : Head) (t : Tag) (st : Status) (b : ReplyBody) : (s.reply h t st b).families = s.families := rfl
@[simp] theorem State.reply_tenants (h : Head) (t : Tag) (st : Status) (b : ReplyBody) : (s.reply h t st b).tenants = s.tenants := rfl
@[simp] theorem State.reply_poolFree (h : Head) (t : Tag) (st : Status) (b : ReplyBody) : (s.reply h t st b).poolFree = s.poolFree := rfl
@[simp] theorem State.reply_reserved (h : Head) (t : Tag) (st : Status) (b : ReplyBody) : (s.reply h t st b).reserved = s.reserved := rfl
@[simp] theorem State.reply_pin (h : Head) (t : Tag) (st : Status) (b : ReplyBody) : (s.reply h t st b).pin = s.pin := rfl
@[simp] theorem State.reply_jobs (h : Head) (t : Tag) (st : Status) (b : ReplyBody) : (s.reply h t st b).jobs = s.jobs := rfl
@[simp] theorem State.reply_nextJob (h : Head) (t : Tag) (st : Status) (b : ReplyBody) : (s.reply h t st b).nextJob = s.nextJob := rfl
@[simp] theorem State.reply_jobWait (h : Head) (t : Tag) (st : Status) (b : ReplyBody) : (s.reply h t st b).jobWait = s.jobWait := rfl
@[simp] theorem State.reply_pause (h : Head) (t : Tag) (st : Status) (b : ReplyBody) : (s.reply h t st b).pause = s.pause := rfl
@[simp] theorem State.reply_grants (h : Head) (t : Tag) (st : Status) (b : ReplyBody) : (s.reply h t st b).grants = s.grants := rfl
@[simp] theorem State.reply_reclaim (h : Head) (t : Tag) (st : Status) (b : ReplyBody) : (s.reply h t st b).reclaim = s.reclaim := rfl
@[simp] theorem State.reply_revs (h : Head) (t : Tag) (st : Status) (b : ReplyBody) : (s.reply h t st b).revs = s.revs := rfl
@[simp] theorem State.reply_passes (h : Head) (t : Tag) (st : Status) (b : ReplyBody) : (s.reply h t st b).passes = s.passes := rfl
@[simp] theorem State.reply_cows (h : Head) (t : Tag) (st : Status) (b : ReplyBody) : (s.reply h t st b).cows = s.cows := rfl
@[simp] theorem State.reply_held (h : Head) (t : Tag) (st : Status) (b : ReplyBody) : (s.reply h t st b).held = s.held := rfl
@[simp] theorem State.reply_replies (h : Head) (t : Tag) (st : Status) (b : ReplyBody) : (s.reply h t st b).replies = s.replies := rfl
@[simp] theorem State.reply_heldSeq (h : Head) (t : Tag) (st : Status) (b : ReplyBody) : (s.reply h t st b).heldSeq = s.heldSeq := rfl
@[simp] theorem State.reply_passSeq (h : Head) (t : Tag) (st : Status) (b : ReplyBody) : (s.reply h t st b).passSeq = s.passSeq := rfl
@[simp] theorem State.reply_replySeq (h : Head) (t : Tag) (st : Status) (b : ReplyBody) : (s.reply h t st b).replySeq = s.replySeq := rfl
@[simp] theorem State.reply_pageDraws (h : Head) (t : Tag) (st : Status) (b : ReplyBody) : (s.reply h t st b).pageDraws = s.pageDraws := rfl
@[simp] theorem State.reply_now (h : Head) (t : Tag) (st : Status) (b : ReplyBody) : (s.reply h t st b).now = s.now := rfl
@[simp] theorem State.reply_pending (h : Head) (t : Tag) (st : Status) (b : ReplyBody) : (s.reply h t st b).pending = s.pending := rfl

/-! `State.evalCond` -/

@[simp] theorem State.evalCond_heads (k : ShelfNo) : (s.evalCond k).heads = s.heads := rfl
@[simp] theorem State.evalCond_startCause (k : ShelfNo) : (s.evalCond k).startCause = s.startCause := rfl
@[simp] theorem State.evalCond_volumes (k : ShelfNo) : (s.evalCond k).volumes = s.volumes := rfl
@[simp] theorem State.evalCond_families (k : ShelfNo) : (s.evalCond k).families = s.families := rfl
@[simp] theorem State.evalCond_tenants (k : ShelfNo) : (s.evalCond k).tenants = s.tenants := rfl
@[simp] theorem State.evalCond_poolFree (k : ShelfNo) : (s.evalCond k).poolFree = s.poolFree := rfl
@[simp] theorem State.evalCond_reserved (k : ShelfNo) : (s.evalCond k).reserved = s.reserved := rfl
@[simp] theorem State.evalCond_pin (k : ShelfNo) : (s.evalCond k).pin = s.pin := rfl
@[simp] theorem State.evalCond_jobs (k : ShelfNo) : (s.evalCond k).jobs = s.jobs := rfl
@[simp] theorem State.evalCond_nextJob (k : ShelfNo) : (s.evalCond k).nextJob = s.nextJob := rfl
@[simp] theorem State.evalCond_jobWait (k : ShelfNo) : (s.evalCond k).jobWait = s.jobWait := rfl
@[simp] theorem State.evalCond_pause (k : ShelfNo) : (s.evalCond k).pause = s.pause := rfl
@[simp] theorem State.evalCond_grants (k : ShelfNo) : (s.evalCond k).grants = s.grants := rfl
@[simp] theorem State.evalCond_reclaim (k : ShelfNo) : (s.evalCond k).reclaim = s.reclaim := rfl
@[simp] theorem State.evalCond_revs (k : ShelfNo) : (s.evalCond k).revs = s.revs := rfl
@[simp] theorem State.evalCond_passes (k : ShelfNo) : (s.evalCond k).passes = s.passes := rfl
@[simp] theorem State.evalCond_cows (k : ShelfNo) : (s.evalCond k).cows = s.cows := rfl
@[simp] theorem State.evalCond_held (k : ShelfNo) : (s.evalCond k).held = s.held := rfl
@[simp] theorem State.evalCond_replies (k : ShelfNo) : (s.evalCond k).replies = s.replies := rfl
@[simp] theorem State.evalCond_heldSeq (k : ShelfNo) : (s.evalCond k).heldSeq = s.heldSeq := rfl
@[simp] theorem State.evalCond_passSeq (k : ShelfNo) : (s.evalCond k).passSeq = s.passSeq := rfl
@[simp] theorem State.evalCond_replySeq (k : ShelfNo) : (s.evalCond k).replySeq = s.replySeq := rfl
@[simp] theorem State.evalCond_pageDraws (k : ShelfNo) : (s.evalCond k).pageDraws = s.pageDraws := rfl
@[simp] theorem State.evalCond_now (k : ShelfNo) : (s.evalCond k).now = s.now := rfl
@[simp] theorem State.evalCond_sent (k : ShelfNo) : (s.evalCond k).sent = s.sent := rfl
@[simp] theorem State.evalCond_pending (k : ShelfNo) : (s.evalCond k).pending = s.pending := rfl

/-! `State.setCow` -/

@[simp] theorem State.setCow_heads (n : Nat) (c : Cow) : (s.setCow n c).heads = s.heads := rfl
@[simp] theorem State.setCow_shelves (n : Nat) (c : Cow) : (s.setCow n c).shelves = s.shelves := rfl
@[simp] theorem State.setCow_startCause (n : Nat) (c : Cow) : (s.setCow n c).startCause = s.startCause := rfl
@[simp] theorem State.setCow_volumes (n : Nat) (c : Cow) : (s.setCow n c).volumes = s.volumes := rfl
@[simp] theorem State.setCow_families (n : Nat) (c : Cow) : (s.setCow n c).families = s.families := rfl
@[simp] theorem State.setCow_tenants (n : Nat) (c : Cow) : (s.setCow n c).tenants = s.tenants := rfl
@[simp] theorem State.setCow_poolFree (n : Nat) (c : Cow) : (s.setCow n c).poolFree = s.poolFree := rfl
@[simp] theorem State.setCow_reserved (n : Nat) (c : Cow) : (s.setCow n c).reserved = s.reserved := rfl
@[simp] theorem State.setCow_pin (n : Nat) (c : Cow) : (s.setCow n c).pin = s.pin := rfl
@[simp] theorem State.setCow_jobs (n : Nat) (c : Cow) : (s.setCow n c).jobs = s.jobs := rfl
@[simp] theorem State.setCow_nextJob (n : Nat) (c : Cow) : (s.setCow n c).nextJob = s.nextJob := rfl
@[simp] theorem State.setCow_jobWait (n : Nat) (c : Cow) : (s.setCow n c).jobWait = s.jobWait := rfl
@[simp] theorem State.setCow_pause (n : Nat) (c : Cow) : (s.setCow n c).pause = s.pause := rfl
@[simp] theorem State.setCow_grants (n : Nat) (c : Cow) : (s.setCow n c).grants = s.grants := rfl
@[simp] theorem State.setCow_reclaim (n : Nat) (c : Cow) : (s.setCow n c).reclaim = s.reclaim := rfl
@[simp] theorem State.setCow_revs (n : Nat) (c : Cow) : (s.setCow n c).revs = s.revs := rfl
@[simp] theorem State.setCow_passes (n : Nat) (c : Cow) : (s.setCow n c).passes = s.passes := rfl
@[simp] theorem State.setCow_held (n : Nat) (c : Cow) : (s.setCow n c).held = s.held := rfl
@[simp] theorem State.setCow_replies (n : Nat) (c : Cow) : (s.setCow n c).replies = s.replies := rfl
@[simp] theorem State.setCow_heldSeq (n : Nat) (c : Cow) : (s.setCow n c).heldSeq = s.heldSeq := rfl
@[simp] theorem State.setCow_passSeq (n : Nat) (c : Cow) : (s.setCow n c).passSeq = s.passSeq := rfl
@[simp] theorem State.setCow_replySeq (n : Nat) (c : Cow) : (s.setCow n c).replySeq = s.replySeq := rfl
@[simp] theorem State.setCow_pageDraws (n : Nat) (c : Cow) : (s.setCow n c).pageDraws = s.pageDraws := rfl
@[simp] theorem State.setCow_now (n : Nat) (c : Cow) : (s.setCow n c).now = s.now := rfl
@[simp] theorem State.setCow_sent (n : Nat) (c : Cow) : (s.setCow n c).sent = s.sent := rfl
@[simp] theorem State.setCow_pending (n : Nat) (c : Cow) : (s.setCow n c).pending = s.pending := rfl

/-! Reads that an update of another table leaves alone -/

@[simp] theorem State.setHead_shelf (h : Head) (x : HeadRec) (k' : ShelfNo) : (s.setHead h x).shelf k' = s.shelf k' := rfl
@[simp] theorem State.setHead_volume (h : Head) (x : HeadRec) (v' : Nat) : (s.setHead h x).volume v' = s.volume v' := rfl
@[simp] theorem State.setHead_tenant (h : Head) (x : HeadRec) (n' : Nat) : (s.setHead h x).tenant n' = s.tenant n' := rfl
@[simp] theorem State.setHead_family (h : Head) (x : HeadRec) (n' : Nat) : (s.setHead h x).family n' = s.family n' := rfl
@[simp] theorem State.updHead_shelf (h : Head) (f : HeadRec → HeadRec) (k' : ShelfNo) : (s.updHead h f).shelf k' = s.shelf k' := rfl
@[simp] theorem State.updHead_volume (h : Head) (f : HeadRec → HeadRec) (v' : Nat) : (s.updHead h f).volume v' = s.volume v' := rfl
@[simp] theorem State.updHead_tenant (h : Head) (f : HeadRec → HeadRec) (n' : Nat) : (s.updHead h f).tenant n' = s.tenant n' := rfl
@[simp] theorem State.updHead_family (h : Head) (f : HeadRec → HeadRec) (n' : Nat) : (s.updHead h f).family n' = s.family n' := rfl
@[simp] theorem State.setShelf_head (k : ShelfNo) (x : Shelf) (h' : Head) : (s.setShelf k x).head h' = s.head h' := rfl
@[simp] theorem State.setShelf_volume (k : ShelfNo) (x : Shelf) (v' : Nat) : (s.setShelf k x).volume v' = s.volume v' := rfl
@[simp] theorem State.setShelf_tenant (k : ShelfNo) (x : Shelf) (n' : Nat) : (s.setShelf k x).tenant n' = s.tenant n' := rfl
@[simp] theorem State.setShelf_family (k : ShelfNo) (x : Shelf) (n' : Nat) : (s.setShelf k x).family n' = s.family n' := rfl
@[simp] theorem State.updShelf_head (k : ShelfNo) (f : Shelf → Shelf) (h' : Head) : (s.updShelf k f).head h' = s.head h' := rfl
@[simp] theorem State.updShelf_volume (k : ShelfNo) (f : Shelf → Shelf) (v' : Nat) : (s.updShelf k f).volume v' = s.volume v' := rfl
@[simp] theorem State.updShelf_tenant (k : ShelfNo) (f : Shelf → Shelf) (n' : Nat) : (s.updShelf k f).tenant n' = s.tenant n' := rfl
@[simp] theorem State.updShelf_family (k : ShelfNo) (f : Shelf → Shelf) (n' : Nat) : (s.updShelf k f).family n' = s.family n' := rfl
@[simp] theorem State.setVolume_head (v : Nat) (x : Volume) (h' : Head) : (s.setVolume v x).head h' = s.head h' := rfl
@[simp] theorem State.setVolume_shelf (v : Nat) (x : Volume) (k' : ShelfNo) : (s.setVolume v x).shelf k' = s.shelf k' := rfl
@[simp] theorem State.setVolume_tenant (v : Nat) (x : Volume) (n' : Nat) : (s.setVolume v x).tenant n' = s.tenant n' := rfl
@[simp] theorem State.setVolume_family (v : Nat) (x : Volume) (n' : Nat) : (s.setVolume v x).family n' = s.family n' := rfl
@[simp] theorem State.updVolume_head (v : Nat) (f : Volume → Volume) (h' : Head) : (s.updVolume v f).head h' = s.head h' := rfl
@[simp] theorem State.updVolume_shelf (v : Nat) (f : Volume → Volume) (k' : ShelfNo) : (s.updVolume v f).shelf k' = s.shelf k' := rfl
@[simp] theorem State.updVolume_tenant (v : Nat) (f : Volume → Volume) (n' : Nat) : (s.updVolume v f).tenant n' = s.tenant n' := rfl
@[simp] theorem State.updVolume_family (v : Nat) (f : Volume → Volume) (n' : Nat) : (s.updVolume v f).family n' = s.family n' := rfl
@[simp] theorem State.updTenant_head (n : Nat) (f : Tenant → Tenant) (h' : Head) : (s.updTenant n f).head h' = s.head h' := rfl
@[simp] theorem State.updTenant_shelf (n : Nat) (f : Tenant → Tenant) (k' : ShelfNo) : (s.updTenant n f).shelf k' = s.shelf k' := rfl
@[simp] theorem State.updTenant_volume (n : Nat) (f : Tenant → Tenant) (v' : Nat) : (s.updTenant n f).volume v' = s.volume v' := rfl
@[simp] theorem State.updTenant_family (n : Nat) (f : Tenant → Tenant) (n' : Nat) : (s.updTenant n f).family n' = s.family n' := rfl
@[simp] theorem State.setFamily_head (n c : Nat) (h' : Head) : (s.setFamily n c).head h' = s.head h' := rfl
@[simp] theorem State.setFamily_shelf (n c : Nat) (k' : ShelfNo) : (s.setFamily n c).shelf k' = s.shelf k' := rfl
@[simp] theorem State.setFamily_volume (n c : Nat) (v' : Nat) : (s.setFamily n c).volume v' = s.volume v' := rfl
@[simp] theorem State.setFamily_tenant (n c : Nat) (n' : Nat) : (s.setFamily n c).tenant n' = s.tenant n' := rfl
@[simp] theorem State.setEntry_head (v e : Nat) (x : MapEntry) (h' : Head) : (s.setEntry v e x).head h' = s.head h' := rfl
@[simp] theorem State.setEntry_shelf (v e : Nat) (x : MapEntry) (k' : ShelfNo) : (s.setEntry v e x).shelf k' = s.shelf k' := rfl
@[simp] theorem State.setEntry_tenant (v e : Nat) (x : MapEntry) (n' : Nat) : (s.setEntry v e x).tenant n' = s.tenant n' := rfl
@[simp] theorem State.setEntry_family (v e : Nat) (x : MapEntry) (n' : Nat) : (s.setEntry v e x).family n' = s.family n' := rfl
@[simp] theorem State.emit_head (x : Sent) (h' : Head) : (s.emit x).head h' = s.head h' := rfl
@[simp] theorem State.emit_shelf (x : Sent) (k' : ShelfNo) : (s.emit x).shelf k' = s.shelf k' := rfl
@[simp] theorem State.emit_volume (x : Sent) (v' : Nat) : (s.emit x).volume v' = s.volume v' := rfl
@[simp] theorem State.emit_tenant (x : Sent) (n' : Nat) : (s.emit x).tenant n' = s.tenant n' := rfl
@[simp] theorem State.emit_family (x : Sent) (n' : Nat) : (s.emit x).family n' = s.family n' := rfl
@[simp] theorem State.openTag_shelf (h : Head) (t : Tag) (k' : ShelfNo) : (s.openTag h t).shelf k' = s.shelf k' := rfl
@[simp] theorem State.openTag_volume (h : Head) (t : Tag) (v' : Nat) : (s.openTag h t).volume v' = s.volume v' := rfl
@[simp] theorem State.openTag_tenant (h : Head) (t : Tag) (n' : Nat) : (s.openTag h t).tenant n' = s.tenant n' := rfl
@[simp] theorem State.openTag_family (h : Head) (t : Tag) (n' : Nat) : (s.openTag h t).family n' = s.family n' := rfl
@[simp] theorem State.freeTag_shelf (h : Head) (t : Tag) (k' : ShelfNo) : (s.freeTag h t).shelf k' = s.shelf k' := rfl
@[simp] theorem State.freeTag_volume (h : Head) (t : Tag) (v' : Nat) : (s.freeTag h t).volume v' = s.volume v' := rfl
@[simp] theorem State.freeTag_tenant (h : Head) (t : Tag) (n' : Nat) : (s.freeTag h t).tenant n' = s.tenant n' := rfl
@[simp] theorem State.freeTag_family (h : Head) (t : Tag) (n' : Nat) : (s.freeTag h t).family n' = s.family n' := rfl
@[simp] theorem State.reply_shelf (h : Head) (t : Tag) (st : Status) (b : ReplyBody) (k' : ShelfNo) : (s.reply h t st b).shelf k' = s.shelf k' := rfl
@[simp] theorem State.reply_volume (h : Head) (t : Tag) (st : Status) (b : ReplyBody) (v' : Nat) : (s.reply h t st b).volume v' = s.volume v' := rfl
@[simp] theorem State.reply_tenant (h : Head) (t : Tag) (st : Status) (b : ReplyBody) (n' : Nat) : (s.reply h t st b).tenant n' = s.tenant n' := rfl
@[simp] theorem State.reply_family (h : Head) (t : Tag) (st : Status) (b : ReplyBody) (n' : Nat) : (s.reply h t st b).family n' = s.family n' := rfl
@[simp] theorem State.evalCond_head (k : ShelfNo) (h' : Head) : (s.evalCond k).head h' = s.head h' := rfl
@[simp] theorem State.evalCond_volume (k : ShelfNo) (v' : Nat) : (s.evalCond k).volume v' = s.volume v' := rfl
@[simp] theorem State.evalCond_tenant (k : ShelfNo) (n' : Nat) : (s.evalCond k).tenant n' = s.tenant n' := rfl
@[simp] theorem State.evalCond_family (k : ShelfNo) (n' : Nat) : (s.evalCond k).family n' = s.family n' := rfl
@[simp] theorem State.setCow_head (n : Nat) (c : Cow) (h' : Head) : (s.setCow n c).head h' = s.head h' := rfl
@[simp] theorem State.setCow_shelf (n : Nat) (c : Cow) (k' : ShelfNo) : (s.setCow n c).shelf k' = s.shelf k' := rfl
@[simp] theorem State.setCow_volume (n : Nat) (c : Cow) (v' : Nat) : (s.setCow n c).volume v' = s.volume v' := rfl
@[simp] theorem State.setCow_tenant (n : Nat) (c : Cow) (n' : Nat) : (s.setCow n c).tenant n' = s.tenant n' := rfl
@[simp] theorem State.setCow_family (n : Nat) (c : Cow) (n' : Nat) : (s.setCow n c).family n' = s.family n' := rfl

/-! Reading back -/

@[simp] theorem State.head_setHead_same (h : Head) (x : HeadRec) : (s.setHead h x).head h = x := by
  simp [State.head, State.setHead]

@[simp] theorem State.head_setHead_ne {h k : Head} (x : HeadRec) (hne : k ≠ h) :
    (s.setHead h x).head k = s.head k := by
  have : (h : Nat) ≠ (k : Nat) := fun e => hne (Fin.ext e.symm)
  simp [State.head, State.setHead, this]

@[simp] theorem State.head_updHead_same (h : Head) (f : HeadRec → HeadRec) : (s.updHead h f).head h = f (s.head h) :=
  State.head_setHead_same s h _

@[simp] theorem State.head_updHead_ne {h k : Head} (f : HeadRec → HeadRec) (hne : k ≠ h) :
    (s.updHead h f).head k = s.head k :=
  State.head_setHead_ne s _ hne

/-- Writing back a head's own record changes nothing. -/
@[simp] theorem State.setHead_self (h : Head) : s.setHead h (s.head h) = s := by
  have : s.heads.set h.val s.heads[h.val] h.isLt = s.heads := by
    ext i hi
    by_cases e : h.val = i
    · subst e; simp
    · simp
  show { s with heads := s.heads.set h.val s.heads[h.val] h.isLt } = s
  rw [this]

@[simp] theorem State.setHead_setHead (h : Head) (x y : HeadRec) : (s.setHead h x).setHead h y = s.setHead h y := by
  simp [State.setHead]

@[simp] theorem State.shelf_setShelf_same (k : ShelfNo) (x : Shelf) : (s.setShelf k x).shelf k = x := by
  simp [State.shelf, State.setShelf]

@[simp] theorem State.shelf_setShelf_ne {k j : ShelfNo} (x : Shelf) (hne : j ≠ k) :
    (s.setShelf k x).shelf j = s.shelf j := by
  have : (k : Nat) ≠ (j : Nat) := fun e => hne (Fin.ext e.symm)
  simp [State.shelf, State.setShelf, this]

@[simp] theorem State.shelf_updShelf_same (k : ShelfNo) (f : Shelf → Shelf) :
    (s.updShelf k f).shelf k = f (s.shelf k) :=
  State.shelf_setShelf_same s k _

@[simp] theorem State.shelf_updShelf_ne {k j : ShelfNo} (f : Shelf → Shelf) (hne : j ≠ k) :
    (s.updShelf k f).shelf j = s.shelf j :=
  State.shelf_setShelf_ne s _ hne

@[simp] theorem State.volume_setVolume_same (v : Nat) (x : Volume) : (s.setVolume v x).volume v = x := by
  simp [State.volume, State.setVolume]

@[simp] theorem State.volume_setVolume_ne {v w : Nat} (x : Volume) (hne : w ≠ v) :
    (s.setVolume v x).volume w = s.volume w := by
  simp [State.volume, State.setVolume, Table.get_put_ne _ _ _ hne]

@[simp] theorem State.volume_updVolume_same (v : Nat) (f : Volume → Volume) :
    (s.updVolume v f).volume v = f (s.volume v) :=
  State.volume_setVolume_same s v _

@[simp] theorem State.volume_updVolume_ne {v w : Nat} (f : Volume → Volume) (hne : w ≠ v) :
    (s.updVolume v f).volume w = s.volume w :=
  State.volume_setVolume_ne s _ hne

@[simp] theorem State.tenant_updTenant_same (n : Nat) (f : Tenant → Tenant) :
    (s.updTenant n f).tenant n = f (s.tenant n) := by
  simp [State.tenant, State.updTenant]

@[simp] theorem State.tenant_updTenant_ne {n m : Nat} (f : Tenant → Tenant) (hne : m ≠ n) :
    (s.updTenant n f).tenant m = s.tenant m := by
  simp [State.tenant, State.updTenant, Table.get_put_ne _ _ _ hne]

@[simp] theorem State.family_setFamily_same (n c : Nat) : (s.setFamily n c).family n = c := by
  simp [State.family, State.setFamily]

@[simp] theorem State.family_setFamily_ne {n m : Nat} (c : Nat) (hne : m ≠ n) :
    (s.setFamily n c).family m = s.family m := by
  simp [State.family, State.setFamily, Table.get_put_ne _ _ _ hne]

/-- A map entry written in a present slot reads back. -/
theorem Volume.entry_setEntry_same (r : Volume) (e : Nat) (x : MapEntry) (hp : r.slotPresent e = true) :
    (r.setEntry e x).entry e = x := by
  obtain ⟨p, hp⟩ := Option.isSome_iff_exists.mp hp
  simp [Volume.entry, Volume.setEntry, hp]

/-- A write of one map entry leaves every other entry of the volume as it reads. -/
theorem Volume.entry_setEntry_ne (r : Volume) {e d : Nat} (x : MapEntry) (hne : d ≠ e) :
    (r.setEntry e x).entry d = r.entry d := by
  unfold Volume.setEntry
  cases hp : Table.find? r.dir (dirSlot e) with
  | none => rfl
  | some p =>
    by_cases hs : dirSlot d = dirSlot e
    · have hi : entryIndex d ≠ entryIndex e := by
        simp only [dirSlot, entryIndex, Config.pageEntries] at hs ⊢; omega
      simp [Volume.entry, hs, hp, Table.get_put_ne _ _ _ hi]
    · simp [Volume.entry, Table.find?_insert_ne _ _ hs]

end Sys2Proof.Machine
end

