-- ==== Sys2Proof/Laws/Finish.lean ====
section
/-! SUPPORT. How an event settles when it released nothing that anything waits for: only reclaim acts (R86, R82).
What reclaim changes, and what serving an idle shelf changes, said once. -/

namespace Sys2Proof.Machine

/-! ### Opening a record, and reclaim -/

variable (s : State)

theorem State.notify_revoke (h : Head) (d v e a b : Nat) :
    s.notify h ⟨.revoke, d, v, e, a, b⟩ =
      if (s.head h).link = .dark then s else s.emit (.notice h ⟨.revoke, d, v, e, a, b⟩) := rfl

theorem State.notify_revoke_sent (h : Head) (d v e a b : Nat) :
    s.notify h ⟨.revoke, d, v, e, a, b⟩ =
      { s with sent := (s.notify h ⟨.revoke, d, v, e, a, b⟩).sent } := by
  rw [State.notify_revoke]; split <;> rfl

theorem State.revokes_sent (d v e : Nat) (l : List Head) :
    ∃ ns, (l.foldl (fun s h => s.notify h ⟨.revoke, d, v, e, 0, 0⟩) s) = { s with sent := s.sent ++ ns } ∧
      ∀ x ∈ ns, ∃ h ∈ l, x = .notice h ⟨.revoke, d, v, e, 0, 0⟩ := by
  induction l generalizing s with
  | nil => exact ⟨[], by simp, by simp⟩
  | cons h l ih =>
    rw [List.foldl_cons, State.notify_revoke]
    split
    · obtain ⟨ns, e1, e2⟩ := ih s
      exact ⟨ns, e1, fun x hx => let ⟨k, hk, e⟩ := e2 x hx; ⟨k, by simp [hk], e⟩⟩
    · obtain ⟨ns, e1, e2⟩ := ih (s.emit (.notice h ⟨.revoke, d, v, e, 0, 0⟩))
      refine ⟨.notice h ⟨.revoke, d, v, e, 0, 0⟩ :: ns, ?_, ?_⟩
      · rw [e1]; simp [State.emit]
      · intro x hx
        rcases List.mem_cons.mp hx with rfl | hx
        · exact ⟨h, by simp, rfl⟩
        · obtain ⟨k, hk, e⟩ := e2 x hx; exact ⟨k, by simp [hk], e⟩

/-- Opening a record changes the records and sends REVOKE notices to awaited heads; nothing else (R85). -/
theorem State.openRev_cases (v e : Nat) (r : RevReason) (a : List Head) (p : RevParty) :
    ∃ rs ns, s.openRev v e r a p = { s with revs := s.revs ++ rs, sent := s.sent ++ ns } ∧
      (∀ x ∈ rs, x = ⟨v, e, r, a, s.now + Config.revokeWindow, p⟩ ∧ a ≠ []) ∧
      ∀ x ∈ ns, ∃ h ∈ a, x = .notice h ⟨.revoke, r.code, v, e, 0, 0⟩ := by
  unfold State.openRev
  split
  · exact ⟨[], [], by simp, by simp, by simp⟩
  · rename_i ha
    obtain ⟨ns, e1, e2⟩ := State.revokes_sent
      { s with revs := s.revs ++ [⟨v, e, r, a, s.now + Config.revokeWindow, p⟩] } r.code v e a
    exact ⟨_, ns, e1, by simpa using ha, e2⟩

theorem State.reclaimOne_cases (g : Grant) :
    ∃ rs ns, s.reclaimOne g = { s with revs := s.revs ++ rs, sent := s.sent ++ ns } ∧
      (∀ x ∈ rs, x.reason = .reclaim) ∧ ∀ x ∈ ns, ∃ h v e, x = .notice h ⟨.revoke, 6, v, e, 0, 0⟩ := by
  unfold State.reclaimOne
  split
  · obtain ⟨rs, ns, e, h1, h2⟩ := s.openRev_cases g.vol g.ext .reclaim g.holderHeads .reclaim
    exact ⟨rs, ns, e, fun x hx => by rw [(h1 x hx).1],
      fun x hx => let ⟨h, _, e⟩ := h2 x hx; ⟨h, g.vol, g.ext, e⟩⟩
  · exact ⟨[], [], by simp, by simp, by simp⟩

theorem State.reclaims_cases (l : List Grant) :
    ∃ rs ns, (l.foldl State.reclaimOne s) = { s with revs := s.revs ++ rs, sent := s.sent ++ ns } ∧
      (∀ x ∈ rs, x.reason = .reclaim) ∧ ∀ x ∈ ns, ∃ h v e, x = .notice h ⟨.revoke, 6, v, e, 0, 0⟩ := by
  induction l generalizing s with
  | nil => exact ⟨[], [], by simp, by simp, by simp⟩
  | cons g l ih =>
    obtain ⟨rs, ns, e, h1, h2⟩ := s.reclaimOne_cases g
    obtain ⟨rs', ns', e', h1', h2'⟩ := ih (s.reclaimOne g)
    refine ⟨rs ++ rs', ns ++ ns', ?_, ?_, ?_⟩
    · rw [List.foldl_cons, e', e]; simp
    · intro x hx; rcases List.mem_append.mp hx with hx | hx
      exacts [h1 x hx, h1' x hx]
    · intro x hx; rcases List.mem_append.mp hx with hx | hx
      exacts [h2 x hx, h2' x hx]

/-- The end of an event for reclaim changes the reclaim state, adds RECLAIM records, and sends REVOKE notices with
reason code 6; nothing else (R82). -/
theorem State.reclaimEnd_cases :
    ∃ rs ns, s.reclaimEnd =
        { s with reclaim := reclaimAfter s.reclaim s.freeGrants, revs := s.revs ++ rs, sent := s.sent ++ ns } ∧
      (∀ x ∈ rs, x.reason = .reclaim) ∧ ∀ x ∈ ns, ∃ h v e, x = .notice h ⟨.revoke, 6, v, e, 0, 0⟩ := by
  unfold State.reclaimEnd
  dsimp only
  split
  · exact State.reclaims_cases { s with reclaim := reclaimAfter s.reclaim s.freeGrants } _
  · exact ⟨[], [], by simp, by simp, by simp⟩

/-- A table with room to spare leaves reclaim INACTIVE, and it does nothing. -/
theorem State.reclaimEnd_idle (h : reclaimAfter s.reclaim s.freeGrants = false) :
    s.reclaimEnd = { s with reclaim := false } := by
  unfold State.reclaimEnd
  simp [h]

/-! ### What had left the part before reclaim acts plays no part in it -/

/-- The state with something put before what has left the part. -/
abbrev State.after (s : State) (l : List Sent) : State := { s with sent := l ++ s.sent }

theorem State.notify_revoke_after (l : List Sent) (h : Head) (d v e a b : Nat) :
    (s.after l).notify h ⟨.revoke, d, v, e, a, b⟩ = (s.notify h ⟨.revoke, d, v, e, a, b⟩).after l := by
  rw [State.notify_revoke, State.notify_revoke]
  split <;> rename_i hd
  · rw [if_pos (show (s.head h).link = .dark from hd)]
  · rw [if_neg (show ¬(s.head h).link = .dark from hd)]; simp [State.emit, State.after]

theorem State.openRev_after (l : List Sent) (v e : Nat) (r : RevReason) (a : List Head) (p : RevParty) :
    (s.after l).openRev v e r a p = (s.openRev v e r a p).after l := by
  have key : ∀ (a : List Head) (x : State),
      (a.foldl (fun s h => s.notify h ⟨.revoke, r.code, v, e, 0, 0⟩) (x.after l)) =
        (a.foldl (fun s h => s.notify h ⟨.revoke, r.code, v, e, 0, 0⟩) x).after l := by
    intro a
    induction a with
    | nil => intro x; rfl
    | cons h a ih => intro x; rw [List.foldl_cons, State.notify_revoke_after, ih]; rfl
  unfold State.openRev
  split
  · rfl
  · exact key a { s with revs := s.revs ++ [⟨v, e, r, a, s.now + Config.revokeWindow, p⟩] }

theorem State.reclaimOne_after (l : List Sent) (g : Grant) :
    (s.after l).reclaimOne g = (s.reclaimOne g).after l := by
  unfold State.reclaimOne
  split <;> rename_i hc
  · rw [if_pos (show s.reclaimOpen < Config.reclaimMax ∧ s.revFree = true ∧ s.revAt g.vol g.ext = none from hc)]
    exact s.openRev_after l _ _ _ _ _
  · rw [if_neg (show ¬(s.reclaimOpen < Config.reclaimMax ∧ s.revFree = true ∧ s.revAt g.vol g.ext = none) from hc)]

theorem State.reclaimEnd_after (l : List Sent) : (s.after l).reclaimEnd = s.reclaimEnd.after l := by
  have key : ∀ (gs : List Grant) (x : State), gs.foldl State.reclaimOne (x.after l) =
      (gs.foldl State.reclaimOne x).after l := by
    intro gs
    induction gs with
    | nil => intro x; rfl
    | cons g gs ih => intro x; rw [List.foldl_cons, State.reclaimOne_after, ih]; rfl
  unfold State.reclaimEnd
  dsimp only
  split <;> rename_i hc
  · rw [if_pos (show reclaimAfter s.reclaim s.freeGrants = true from hc)]
    exact key s.grants { s with reclaim := reclaimAfter s.reclaim s.freeGrants }
  · rw [if_neg (show ¬reclaimAfter s.reclaim s.freeGrants = true from hc)]; rfl

/-- What the end of an event for reclaim changes, and where its notices stand: behind what had left before the event and
before the event's first reply (R82, R174). -/
theorem State.reclaimAt_cases (n : Nat) :
    ∃ rs ns, s.reclaimAt n =
        { s with
          reclaim := reclaimAfter s.reclaim s.freeGrants
          revs := s.revs ++ rs
          sent := s.sent.take n ++ ((s.sent.drop n).takeWhile fun x => !x.isReply) ++ ns ++
            (s.sent.drop n).dropWhile fun x => !x.isReply } ∧
      (∀ x ∈ rs, x.reason = .reclaim) ∧ ∀ x ∈ ns, ∃ h v e, x = .notice h ⟨.revoke, 6, v, e, 0, 0⟩ := by
  obtain ⟨rs, ns, e, h1, h2⟩ := State.reclaimEnd_cases
    { s with sent := s.sent.take n ++ (s.sent.drop n).takeWhile fun x => !x.isReply }
  refine ⟨rs, ns, ?_, h1, h2⟩
  unfold State.reclaimAt
  dsimp only
  rw [e]
  rfl

/-- Reclaim's notices in an event that has sent the notices and orders `l`, and no reply: they leave last. -/
theorem State.reclaimAt_front (l : List Sent) (hl : ∀ x ∈ l, x.isReply = false) :
    ({ s with sent := s.sent ++ l } : State).reclaimAt s.sent.length =
      ({ s with sent := s.sent ++ l } : State).reclaimEnd := by
  have h1 : (l.takeWhile fun x => !x.isReply) = l := by
    rw [List.takeWhile_eq_self_iff]; intro x hx; simp [hl x hx]
  have h2 : (l.dropWhile fun x => !x.isReply) = [] := by
    rw [List.dropWhile_eq_nil_iff]; intro x hx; simp [hl x hx]
  simp [State.reclaimAt, h1, h2]

/-- Reclaim's notices in an event that has sent nothing. -/
@[simp] theorem State.reclaimAt_length : s.reclaimAt s.sent.length = s.reclaimEnd := by
  simpa using s.reclaimAt_front [] (by simp)

/-- Reclaim's notices in an event that has sent the notices and orders `l`, then a reply and what followed: they leave
before the reply (R174). -/
theorem State.reclaimAt_reply (l back : List Sent) (hl : ∀ x ∈ l, x.isReply = false) (h : Head) (t : Tag)
    (st : Status) (b : ReplyBody) :
    ({ s with sent := s.sent ++ l ++ .reply h t st b :: back } : State).reclaimAt s.sent.length =
      let u := ({ s with sent := s.sent ++ l } : State).reclaimEnd
      { u with sent := u.sent ++ .reply h t st b :: back } := by
  have h1 : (l ++ .reply h t st b :: back).takeWhile (fun x => !x.isReply) = l := by
    rw [List.takeWhile_append_of_pos (by intro x hx; simp [hl x hx])]
    simp [Sent.isReply]
  have h2 : (l ++ .reply h t st b :: back).dropWhile (fun x => !x.isReply) = .reply h t st b :: back := by
    rw [List.dropWhile_append_of_pos (by intro x hx; simp [hl x hx])]
    simp [Sent.isReply]
  simp [State.reclaimAt, h1, h2]

/-- An event whose one frame is a reply: reclaim's notices leave before it (R174). -/
theorem State.reclaimAt_emit (h : Head) (t : Tag) (st : Status) (b : ReplyBody) :
    (s.emit (.reply h t st b)).reclaimAt s.sent.length = s.reclaimEnd.emit (.reply h t st b) := by
  simpa [State.emit] using s.reclaimAt_reply [] [] (by simp) h t st b

/-! ### An event that releases nothing -/

variable (ev : Ev)

/-- With no freed record and no pass with cause, no pass acts. -/
theorem Ev.passTurns_quiet (h1 : Reason.revokeRoom ∉ ev.rel) (h2 : ev.kick = []) (h2' : ev.kickCow = []) (l : List Nat) :
    ev.passTurns l = (ev, l.map fun _ => (false, [])) := by
  have hq (q : Nat) : ev.hands q = false ∧ ev.kicks q = false := by
    constructor
    · unfold Ev.hands; split <;> simp [h1]
    · unfold Ev.kicks; split <;> simp [h2, h2']
  induction l with
  | nil => rfl
  | cons q l ih =>
    have ht : ev.passTurn q = ev := by simp [Ev.passTurn, hq q]
    simp only [Ev.passTurns, ht, ih, (hq q).1, List.drop_length, List.map_cons]

theorem Ev.handOut_quiet (h1 : Reason.revokeRoom ∉ ev.rel) (h2 : ev.kick = []) (h2' : ev.kickCow = []) :
    ev.handOut = ev := by
  have hc : (if ev.rel.contains .revokeRoom then ev.jobOnRecord else ev) = ev := by simp [h1]
  unfold Ev.handOut
  dsimp only
  rw [hc, ev.passTurns_quiet h1 h2 h2', List.drop_length, Sent.inTurns_silent]
  simp [Ev.map]

theorem Ev.heldPass_quiet (fuel : Nat) (h : ∀ x ∈ ev.st.held, x.reason ∉ ev.rel) : Ev.heldPass fuel ev = ev := by
  cases fuel with
  | zero => rfl
  | succ n =>
    unfold Ev.heldPass
    have : (ev.st.held.find? fun x => ev.rel.contains x.reason && !ev.taken.contains x.seq) = none := by
      simp only [List.find?_eq_none, Bool.and_eq_true, List.contains_iff_mem, not_and]
      intro x hx hr
      exact absurd hr (h x hx)
    rw [this]

/-- A shelf on whose list no order waits has no dispatch that is fixed. -/
theorem Shelf.dispatchesFixed_idle {sh : Shelf} (h : sh.orders = []) : sh.dispatchesFixed = false := by
  simp [Shelf.dispatchesFixed, h]; omega

theorem Ev.serveFixed_quiet (h : ∀ k ∈ ev.run, (ev.st.shelf k).dispatchesFixed = false) : ev.serveFixed = ev := by
  have h1 : (ev.run.filter fun k => (ev.st.shelf k).dispatchesFixed) = [] := by
    simp only [List.filter_eq_nil_iff]; intro k hk; simp [h k hk]
  have h2 : (ev.run.filter fun k => !(ev.st.shelf k).dispatchesFixed) = ev.run := by
    simp only [List.filter_eq_self]; intro k hk; simp [h k hk]
  unfold Ev.serveFixed
  rw [h1, h2]; rfl

/-- An event that releases nothing that is waited for, kicks no pass and runs no shelf ends with reclaim (R82, R86). -/
theorem Ev.finish_quiet (h1 : Reason.revokeRoom ∉ ev.rel) (h2 : ev.kick = []) (h2' : ev.kickCow = [])
    (h3 : ev.run = []) (h4 : ∀ x ∈ ev.st.held, x.reason ∉ ev.rel) : ev.finish = ev.st.reclaimAt ev.lead := by
  unfold Ev.finish
  rw [Ev.handOut_quiet ev h1 h2 h2', Ev.serveFixed_quiet ev (by simp [h3])]
  unfold Ev.rounds
  simp [Ev.heldPass_quiet ev _ h4, h3, h1]

/-! ### Serving an idle shelf -/

variable (sh : Shelf)

theorem Shelf.scrubOne_idle (h : sh.state ≠ .online ∨ sh.scrubQueue = []) : sh.scrubOne = sh := by
  unfold Shelf.scrubOne
  split
  · rename_i hc
    rcases h with h | h
    · exact absurd hc.1 h
    · simp [h]
  · rfl

theorem Shelf.scrub_idle (h : sh.state ≠ .online ∨ sh.scrubQueue = []) : sh.scrub = sh := by
  simp [Shelf.scrub, Shelf.scrubOne_idle sh h]

theorem Shelf.clearF_idle (h : sh.orders = []) : sh.clearF = { sh with fgCount := 0 } := by
  simp [Shelf.clearF, h]

/-- A shelf with no order waiting and nothing to scrub: the scrub engine and the arbiter leave it as it is, F at 0
(R124 to R127). -/
theorem Ev.serveShelf_idle (k : ShelfNo) (h : (ev.st.shelf k).state ≠ .online ∨ (ev.st.shelf k).scrubQueue = [])
    (ho : (ev.st.shelf k).orders = []) :
    ev.serveShelf k = ev.map fun s => s.updShelf k fun sh => { sh with fgCount := 0 } := by
  unfold Ev.serveShelf
  rw [Shelf.scrub_idle _ h, Shelf.clearF_idle _ ho]
  simp [ho, Shelf.dispatchAll, Ev.map, State.updShelf]

/-- An event that runs one idle shelf, and releases nothing that is waited for. -/
theorem Ev.finish_idle (k : ShelfNo) (h1 : Reason.revokeRoom ∉ ev.rel) (h2 : ev.kick = []) (h2' : ev.kickCow = [])
    (h3 : ev.run = [k]) (h4 : ∀ x ∈ ev.st.held, x.reason ∉ ev.rel)
    (hs : (ev.st.shelf k).state ≠ .online ∨ (ev.st.shelf k).scrubQueue = []) (ho : (ev.st.shelf k).orders = []) :
    ev.finish = (ev.st.updShelf k fun sh => { sh with fgCount := 0 }).reclaimAt ev.lead := by
  have hc : ev.rel.contains .revokeRoom = false := by simpa using h1
  unfold Ev.finish
  rw [Ev.handOut_quiet ev h1 h2 h2',
    Ev.serveFixed_quiet ev (by intro j hj; rw [h3, List.mem_singleton] at hj; exact hj ▸ Shelf.dispatchesFixed_idle ho)]
  unfold Ev.rounds
  rw [Ev.heldPass_quiet ev _ h4]
  simp only [h3, List.isEmpty_cons, Bool.false_eq_true, if_false, hc]
  have e : ev.serveShelves = { ev with
      st := ev.st.updShelf k fun sh => { sh with fgCount := 0 }, run := [] } := by
    unfold Ev.serveShelves
    rw [h3, List.foldl_cons, List.foldl_nil,
      Ev.serveShelf_idle { ev with run := [] } k hs ho]
    rfl
  rw [e]
  unfold Ev.rounds
  rw [Ev.heldPass_quiet _ _ (by exact h4)]
  simp

end Sys2Proof.Machine
end

