-- ==== Sys2Proof/Laws/Kept.lean ====
section
/-! SUPPORT. What the work inside an event leaves alone. The settling of an event (R86, R74, R120, R82), and each shared
operation below it, keeps the pin, the start cause, the clock, the command queue, every head's link state, error count,
masks and standing FENCE record, every tenant's limit, and the record fields of every shelf but its PET, its lists and its orders. -/

namespace Sys2Proof.Machine

/-- What no settling of an event changes in a head. -/
def HeadRec.fixed (r : HeadRec) : LinkState × Nat × PerClass Bool × Option Notice :=
  (r.link, r.errors, r.masks, r.fence)

/-- What no settling of an event changes in a shelf, apart from its retired count. -/
def Shelf.fixed (sh : Shelf) :
    (ShelfState × Nat × Nat × Nat × Nat × Nat) × (PoolCond × Bool × Nat × Option Nat × Option Nat × Nat × Nat) :=
  ((sh.state, sh.capacity, sh.label, sh.lowMark, sh.reserve, sh.baseLevel),
    (sh.cond, sh.linkUp, sh.timeouts, sh.reverify, sh.stepTimer, sh.level, sh.retired))

/-- What no settling of an event changes. -/
def State.kept (s : State) :=
  (s.pin, s.startCause, s.now, s.pending, s.heads.map HeadRec.fixed, s.shelves.map Shelf.fixed,
    fun n => (s.tenant n).limit)

theorem State.kept_foldl {α : Type} (f : State → α → State) (hf : ∀ s x, (f s x).kept = s.kept) (l : List α)
    (s : State) : (l.foldl f s).kept = s.kept := by
  induction l generalizing s with
  | nil => rfl
  | cons x l ih => rw [List.foldl_cons, ih, hf]

theorem Ev.kept_foldl {α : Type} (f : Ev → α → Ev) (hf : ∀ ev x, (f ev x).st.kept = ev.st.kept) (l : List α)
    (ev : Ev) : (l.foldl f ev).st.kept = ev.st.kept := by
  induction l generalizing ev with
  | nil => rfl
  | cons x l ih => rw [List.foldl_cons, ih, hf]

theorem Ev.kept_apart {α : Type} (f : Ev → α → Ev) (hf : ∀ ev x, (f ev x).st.kept = ev.st.kept) (l : List α)
    (ev : Ev) : (Ev.apart f l ev).st.kept = ev.st.kept := by
  induction l generalizing ev with
  | nil => rfl
  | cons x l ih => exact (ih (f ev x)).trans (hf ev x)

variable (s : State)

/-! ### The named updates -/

theorem State.kept_updHead (h : Head) (f : HeadRec → HeadRec) (hf : (f (s.head h)).fixed = (s.head h).fixed) :
    (s.updHead h f).kept = s.kept := by
  have : (s.updHead h f).heads.map HeadRec.fixed = s.heads.map HeadRec.fixed := by
    apply Vector.ext; intro i hi
    by_cases e : h.val = i
    · subst e; simpa [State.updHead, State.setHead, State.head] using hf
    · simp [State.updHead, State.setHead, e]
  simp [State.kept, this]

theorem State.kept_setShelf (k : ShelfNo) (x : Shelf) (hx : x.fixed = (s.shelf k).fixed) :
    (s.setShelf k x).kept = s.kept := by
  have : (s.setShelf k x).shelves.map Shelf.fixed = s.shelves.map Shelf.fixed := by
    apply Vector.ext; intro i hi
    by_cases e : k.val = i
    · subst e; simpa [State.setShelf, State.shelf] using hx
    · simp [State.setShelf, e]
  simp [State.kept, this]

theorem State.kept_updShelf (k : ShelfNo) (f : Shelf → Shelf) (hf : ∀ x : Shelf, (f x).fixed = x.fixed) :
    (s.updShelf k f).kept = s.kept :=
  s.kept_setShelf k _ (hf _)

theorem State.kept_updTenant (n : Nat) (f : Tenant → Tenant) (hf : ∀ x : Tenant, (f x).limit = x.limit) :
    (s.updTenant n f).kept = s.kept := by
  have : (fun m => ((s.updTenant n f).tenant m).limit) = fun m => (s.tenant m).limit := by
    funext m
    by_cases e : m = n
    · subst e; simp [hf]
    · simp [e]
  simp [State.kept, this]

@[simp] theorem State.kept_setVolume (v : Nat) (x : Volume) : (s.setVolume v x).kept = s.kept := rfl
@[simp] theorem State.kept_updVolume (v : Nat) (f : Volume → Volume) : (s.updVolume v f).kept = s.kept := rfl
@[simp] theorem State.kept_setFamily (n c : Nat) : (s.setFamily n c).kept = s.kept := rfl
@[simp] theorem State.kept_setEntry (v e : Nat) (x : MapEntry) : (s.setEntry v e x).kept = s.kept := rfl
@[simp] theorem State.kept_emit (x : Sent) : (s.emit x).kept = s.kept := rfl
@[simp] theorem State.kept_setCow (n : Nat) (c : Cow) : (s.setCow n c).kept = s.kept := rfl

@[simp] theorem State.kept_freeTag (h : Head) (t : Tag) : (s.freeTag h t).kept = s.kept :=
  s.kept_updHead h _ rfl
@[simp] theorem State.kept_openTag (h : Head) (t : Tag) : (s.openTag h t).kept = s.kept :=
  s.kept_updHead h _ rfl
@[simp] theorem State.kept_reply (h : Head) (t : Tag) (st : Status) (b : ReplyBody) :
    (s.reply h t st b).kept = s.kept := s.kept_freeTag h t
@[simp] theorem State.kept_refuse (h : Head) (t : Tag) (st : Status) : (s.refuse h t st).kept = s.kept :=
  s.kept_reply h t st _
@[simp] theorem State.kept_replyWords (h : Head) (t : Tag) (ws : List Nat) : (s.replyWords h t ws).kept = s.kept :=
  s.kept_reply h t _ _
@[simp] theorem State.kept_answer (w : Waiter) (st : Status) (b : ReplyBody) : (s.answer w st b).kept = s.kept := by
  unfold State.answer; split <;> [rfl; split] <;> simp

/-! ### Notices and conditions -/

theorem HeadRec.fixed_keepPending (r : HeadRec) (n : Notice) : (r.keepPending n).fixed = r.fixed := by
  unfold HeadRec.keepPending; split <;> rfl

@[simp] theorem State.kept_notify (h : Head) (n : Notice) (hn : n.cls ≠ .fence) : (s.notify h n).kept = s.kept := by
  unfold State.notify
  split
  · rfl
  · split
    · rfl
    · rename_i hc; exact absurd hc hn
    · split
      · exact s.kept_updHead h _ (HeadRec.fixed_keepPending _ _)
      · rfl

@[simp] theorem State.kept_notifyAll (n : Notice) (hn : n.cls ≠ .fence) : (s.notifyAll n).kept = s.kept :=
  State.kept_foldl (fun s h => State.notify s h n) (fun s h => s.kept_notify h n hn) _ _
@[simp] theorem State.kept_shelfNotice (k : ShelfNo) (d : Nat) : (s.shelfNotice k d).kept = s.kept :=
  s.kept_notifyAll _ (by simp)

theorem Shelf.fixed_evalCond (now : Nat) (sh : Shelf) : (sh.evalCond now).fixed = sh.fixed := by
  unfold Shelf.evalCond
  split
  · split
    · rfl
    · split <;> rfl
  · rfl

@[simp] theorem State.kept_evalCond (k : ShelfNo) : (s.evalCond k).kept = s.kept :=
  s.kept_updShelf k _ (Shelf.fixed_evalCond _)

@[simp] theorem State.kept_markTest (v : Nat) : (s.markTest v).kept = s.kept := by
  unfold State.markTest; dsimp only; split <;> simp

@[simp] theorem State.kept_tenantLimitTest (n b : Nat) : (s.tenantLimitTest n b).kept = s.kept := by
  unfold State.tenantLimitTest; dsimp only; split <;> simp

/-! ### Slots, orders and dispatch -/

theorem Shelf.fixed_takeFree (sh : Shelf) (st : SlotState) (n : Nat) : (sh.takeFree st n).fixed = sh.fixed := by
  unfold Shelf.takeFree; split <;> rfl

theorem Shelf.fixed_foldl {α : Type} (f : Shelf → α → Shelf) (hf : ∀ sh x, (f sh x).fixed = sh.fixed) (l : List α)
    (sh : Shelf) : (l.foldl f sh).fixed = sh.fixed := by
  induction l generalizing sh with
  | nil => rfl
  | cons x l ih => rw [List.foldl_cons, ih, hf]

theorem Shelf.fixed_returnSlots (sh : Shelf) (l : List Nat) : (sh.returnSlots l).fixed = sh.fixed :=
  Shelf.fixed_foldl (fun (x : Shelf) c => x.setSlot c .scrubWait 0) (fun _ _ => rfl) _ sh

theorem Shelf.fixed_scrubOne (sh : Shelf) : sh.scrubOne.fixed = sh.fixed := by
  unfold Shelf.scrubOne
  split
  · split <;> rfl
  · rfl

theorem Shelf.fixed_scrub (sh : Shelf) : sh.scrub.fixed = sh.fixed := by
  simp [Shelf.scrub, Shelf.fixed_scrubOne]

theorem Shelf.fixed_clearF (sh : Shelf) : sh.clearF.fixed = sh.fixed := by
  unfold Shelf.clearF; split <;> rfl

theorem Shelf.fixed_dispatchOne {now : Nat} {sh sh' : Shelf} {x : InFlight}
    (hd : sh.dispatchOne now = some (sh', x)) : sh'.fixed = sh.fixed := by
  unfold Shelf.dispatchOne at hd
  split at hd
  · split at hd
    · split at hd
      · cases hd
      · obtain ⟨rfl, -⟩ := Prod.mk.inj (Option.some.inj hd)
        rw [Shelf.fixed_clearF]; rfl
    · cases hd
  · cases hd

theorem Shelf.fixed_dispatchAll (now fuel : Nat) (sh : Shelf) : (sh.dispatchAll now fuel).1.fixed = sh.fixed := by
  induction fuel generalizing sh with
  | zero => rfl
  | succ n ih =>
    unfold Shelf.dispatchAll
    split
    · rfl
    · rename_i sh1 x hd
      show (sh1.dispatchAll now n).1.fixed = sh.fixed
      rw [ih, Shelf.fixed_dispatchOne hd]

@[simp] theorem Ev.st_map (ev : Ev) (f : State → State) : (ev.map f).st = f ev.st := rfl
@[simp] theorem Ev.st_release (ev : Ev) (r : Reason) : (ev.release r).st = ev.st := rfl
@[simp] theorem Ev.st_releaseAll (ev : Ev) (rs : List Reason) : (ev.releaseAll rs).st = ev.st := rfl
@[simp] theorem Ev.st_runShelf (ev : Ev) (k : ShelfNo) : (ev.runShelf k).st = ev.st := rfl
@[simp] theorem Ev.st_kickPass (ev : Ev) (q : Nat) : (ev.kickPass q).st = ev.st := rfl
@[simp] theorem Ev.st_kickPassCow (ev : Ev) (q : Nat) : (ev.kickPassCow q).st = ev.st := rfl
@[simp] theorem Ev.st_start : (Ev.start s).st = s := rfl

theorem Ev.st_foldl {α : Type} (f : Ev → α → Ev) (hf : ∀ ev x, (f ev x).st = ev.st) (l : List α) (ev : Ev) :
    (l.foldl f ev).st = ev.st := by
  induction l generalizing ev with
  | nil => rfl
  | cons x l ih => rw [List.foldl_cons, ih, hf]

variable (ev : Ev)

theorem State.kept_emitOrders (k : ShelfNo) (l : List InFlight) :
    (l.foldl (fun s (x : InFlight) => s.emit (.order k x.tag x.serial x.order)) s).kept = s.kept :=
  State.kept_foldl (fun s (x : InFlight) => s.emit (.order k x.tag x.serial x.order)) (fun _ _ => rfl) l s

theorem Shelf.fixed_served (now fuel : Nat) (sh : Shelf) :
    (sh.scrub.clearF.dispatchAll now fuel).1.fixed = sh.fixed := by
  rw [Shelf.fixed_dispatchAll, Shelf.fixed_clearF, Shelf.fixed_scrub]

theorem Ev.serveShelf_st (k : ShelfNo) : (ev.serveShelf k).st =
    (((ev.st.shelf k).scrub.clearF.dispatchAll ev.st.now (ev.st.shelf k).scrub.clearF.orders.length).2.foldl
      (fun s (x : InFlight) => s.emit (.order k x.tag x.serial x.order))
      (ev.st.setShelf k
        ((ev.st.shelf k).scrub.clearF.dispatchAll ev.st.now (ev.st.shelf k).scrub.clearF.orders.length).1)) := by
  unfold Ev.serveShelf
  simp only
  generalize Shelf.dispatchAll ev.st.now _ _ = r
  split <;> rfl

@[simp] theorem Ev.kept_serveShelf (k : ShelfNo) : (ev.serveShelf k).st.kept = ev.st.kept := by
  rw [Ev.serveShelf_st, State.kept_emitOrders]
  exact ev.st.kept_setShelf k _ (Shelf.fixed_served _ _ _)

@[simp] theorem Ev.kept_serveShelves : ev.serveShelves.st.kept = ev.st.kept :=
  Ev.kept_foldl Ev.serveShelf (fun ev k => ev.kept_serveShelf k) ev.run { ev with run := [] }

@[simp] theorem Ev.kept_serveFixed : ev.serveFixed.st.kept = ev.st.kept :=
  Ev.kept_foldl Ev.serveShelf (fun ev k => ev.kept_serveShelf k) _ _

@[simp] theorem Ev.kept_dropRef (k : ShelfNo) (c : Nat) : (ev.dropRef k c).st.kept = ev.st.kept := by
  unfold Ev.dropRef; dsimp only
  split
  · exact ev.st.kept_setShelf k _ rfl
  · exact ev.st.kept_setShelf k _ rfl

/-! ### Allocation -/

@[simp] theorem State.kept_takePage (v e : Nat) : (s.takePage v e).kept = s.kept := rfl

@[simp] theorem State.kept_ensurePage (v e : Nat) : (s.ensurePage v e).kept = s.kept := by
  unfold State.ensurePage; split <;> simp

@[simp] theorem State.kept_commitFresh (v e : Nat) (k : ShelfNo) : (s.commitFresh v e k).kept = s.kept := by
  unfold State.commitFresh; dsimp only
  refine Eq.trans (State.kept_updTenant _ _ _ ?_) ?_
  · intro _; rfl
  rw [State.kept_updVolume, State.kept_setEntry]
  refine Eq.trans (State.kept_updShelf _ _ _ ?_) (State.kept_ensurePage _ _ _)
  intro x; exact x.fixed_takeFree _ _

@[simp] theorem State.kept_releasePage (v e : Nat) : (s.releasePage v e).kept = s.kept := by
  unfold State.releasePage
  split
  · split <;> rfl
  · rfl

/-! ### Grants, revocations and replies -/

@[simp] theorem State.kept_setHolder (v e : Nat) (h : Head) (k : GrantKind) : (s.setHolder v e h k).kept = s.kept := rfl
@[simp] theorem State.kept_touchHolder (v e : Nat) (h : Head) : (s.touchHolder v e h).kept = s.kept := rfl

@[simp] theorem Ev.st_grantsFreed (b : Nat) : (ev.grantsFreed b).st = ev.st := by
  unfold Ev.grantsFreed; split <;> rfl

@[simp] theorem Ev.kept_dropHolder (v e : Nat) (h : Head) : (ev.dropHolder v e h).st.kept = ev.st.kept := by
  unfold Ev.dropHolder; rw [Ev.st_grantsFreed]; rfl
@[simp] theorem Ev.kept_dropAllHolders (h : Head) : (ev.dropAllHolders h).st.kept = ev.st.kept := by
  unfold Ev.dropAllHolders; rw [Ev.st_grantsFreed]; rfl
@[simp] theorem Ev.kept_freeVolumeGrants (v : Nat) : (ev.freeVolumeGrants v).st.kept = ev.st.kept := by
  unfold Ev.freeVolumeGrants; rw [Ev.st_grantsFreed]; rfl

@[simp] theorem State.kept_openRev (v e : Nat) (r : RevReason) (a : List Head) (p : RevParty) :
    (s.openRev v e r a p).kept = s.kept := by
  unfold State.openRev
  split
  · rfl
  · exact State.kept_foldl (fun s h => State.notify s h ⟨.revoke, r.code, v, e, 0, 0⟩)
      (fun s h => s.kept_notify h _ (by simp)) _ _

@[simp] theorem State.kept_reclaimOne (g : Grant) : (s.reclaimOne g).kept = s.kept := by
  unfold State.reclaimOne; split <;> simp

@[simp] theorem State.kept_reclaimEnd : s.reclaimEnd.kept = s.kept := by
  unfold State.reclaimEnd; dsimp only
  split
  · exact State.kept_foldl State.reclaimOne (fun s g => s.kept_reclaimOne g) _ _
  · rfl

@[simp] theorem State.kept_sendWriteReply (r : ReplyRec) : (s.sendWriteReply r).kept = s.kept := by
  unfold State.sendWriteReply; split <;> simp

@[simp] theorem State.kept_updReply (id : Nat) (f : ReplyRec → ReplyRec) : (s.updReply id f).kept = s.kept := rfl

@[simp] theorem State.kept_endWait (id : Nat) (g : Bool) : (s.endWait id g).kept = s.kept := by
  unfold State.endWait
  split
  · rfl
  · dsimp only
    split
    · rw [State.kept_sendWriteReply]; rfl
    · rfl

/-! ### Jobs -/

@[simp] theorem State.kept_setHeadJob (j : Job) : (s.setHeadJob j).kept = s.kept := by
  unfold State.setHeadJob; split <;> rfl

@[simp] theorem State.kept_startHead : s.startHead.kept = s.kept := by
  unfold State.startHead
  split
  · rfl
  · split <;> rfl

@[simp] theorem State.kept_queueJob (w : JobWork) (c e : Nat) : (s.queueJob w c e).kept = s.kept := by
  unfold State.queueJob; rw [State.kept_startHead]; rfl

@[simp] theorem State.kept_answerPause (st : Status) : (s.answerPause st).kept = s.kept := by
  unfold State.answerPause
  split
  · rfl
  · rw [State.kept_answer]; rfl

@[simp] theorem State.kept_pauseNow : s.pauseNow.kept = s.kept := by
  unfold State.pauseNow; split <;> simp

@[simp] theorem State.kept_endJob (j : Job) : (s.endJob j).kept = s.kept := by
  unfold State.endJob; dsimp only
  rw [State.kept_startHead, State.kept_answerPause, State.kept_notifyAll _ _ (by simp)]; rfl

@[simp] theorem Ev.kept_deleteEnd (j : Job) (v : Nat) : (ev.deleteEnd j v).st.kept = ev.st.kept := by
  unfold Ev.deleteEnd; dsimp only
  rw [Ev.st_map, State.kept_endJob]
  refine Eq.trans (State.kept_updTenant _ _ _ ?_) ?_
  · intro _; rfl
  rw [State.kept_setFamily, State.kept_setVolume, Ev.kept_freeVolumeGrants]

@[simp] theorem Ev.kept_deleteEndTest (v : Nat) : (ev.deleteEndTest v).st.kept = ev.st.kept := by
  unfold Ev.deleteEndTest
  split
  · split <;> simp
  · rfl

@[simp] theorem Ev.kept_walkOn : ev.walkOn.st.kept = ev.st.kept := by
  unfold Ev.walkOn
  split
  · rfl
  · dsimp only
    split
    · split
      · simp
      · split
        · simp
        · exact State.kept_setHeadJob _ _
      · simp
    · simp

@[simp] theorem Ev.kept_jobUnmap (j : Job) (v c : Nat) (k : ShelfNo) (slot : Nat) :
    (ev.jobUnmap j v c k slot).st.kept = ev.st.kept := by
  unfold Ev.jobUnmap; dsimp only
  rw [Ev.kept_walkOn, Ev.st_map, State.kept_setHeadJob, State.kept_markTest, State.kept_releasePage]
  refine Eq.trans (State.kept_updTenant _ _ _ ?_) ?_
  · intro _; rfl
  rw [State.kept_updVolume, Ev.kept_dropRef, Ev.st_map, State.kept_setEntry]

@[simp] theorem Ev.kept_jobMapped (j : Job) (v c : Nat) (r : RevReason) (k : ShelfNo) (slot : Nat) :
    (ev.jobMapped j v c r k slot).st.kept = ev.st.kept := by
  unfold Ev.jobMapped
  split
  · rfl
  · split
    · simp
    · split
      · exact State.kept_openRev _ _ _ _ _ _
      · rfl

@[simp] theorem Ev.kept_walkStep (j : Job) (v : Nat) (r : RevReason) : (ev.walkStep j v r).st.kept = ev.st.kept := by
  have h0 : ∀ c : Nat, ({ (ev.st.setHeadJob { j with cursor := c }) with jobWait := .none } : State).kept = ev.st.kept :=
    fun c => State.kept_setHeadJob _ _
  unfold Ev.walkStep; dsimp only
  split
  · rw [Ev.kept_walkOn]; exact h0 _
  · split
    · rw [Ev.kept_walkOn, Ev.st_map, State.kept_setHeadJob]; exact h0 _
    · exact h0 _
    · rw [Ev.kept_jobMapped]; exact h0 _

@[simp] theorem Ev.kept_jobLook : ev.jobLook.st.kept = ev.st.kept := by
  unfold Ev.jobLook
  split
  · rfl
  · split
    · split <;> simp
    · rfl

@[simp] theorem Ev.kept_jobOnClose (b : Bool) : (ev.jobOnClose b).st.kept = ev.st.kept := by
  unfold Ev.jobOnClose; split <;> simp
@[simp] theorem Ev.kept_jobOnCow (v e : Nat) : (ev.jobOnCow v e).st.kept = ev.st.kept := by
  unfold Ev.jobOnCow; split <;> simp
@[simp] theorem Ev.kept_jobOnRecord : ev.jobOnRecord.st.kept = ev.st.kept := by
  unfold Ev.jobOnRecord
  split
  · split <;> simp
  all_goals rfl

/-! ### Passes -/

@[simp] theorem State.kept_updPass (q : Nat) (f : Pass → Pass) : (s.updPass q f).kept = s.kept := rfl

@[simp] theorem Ev.kept_passEnd (p : Pass) : (ev.passEnd p).st.kept = ev.st.kept := by
  unfold Ev.passEnd; dsimp only
  split
  · rw [Ev.st_map, State.kept_answer, Ev.kept_deleteEndTest]; rfl
  · rw [Ev.kept_deleteEndTest]; rfl

@[simp] theorem Ev.kept_passTest (q : Nat) : (ev.passTest q).st.kept = ev.st.kept := by
  unfold Ev.passTest
  split
  · rfl
  · split <;> simp

@[simp] theorem State.kept_openDowngrade (q v e : Nat) : (s.openDowngrade q v e).kept = s.kept := by
  unfold State.openDowngrade; simp

@[simp] theorem State.kept_examineKeys (q v : Nat) (l : List Nat) : (s.examineKeys q v l).1.kept = s.kept := by
  induction l generalizing s with
  | nil => rfl
  | cons e l ih =>
    unfold State.examineKeys
    split
    · exact ih s
    · split
      · exact ih s
      · split
        · rw [ih]; simp
        · rfl

@[simp] theorem Ev.kept_passExamine (q : Nat) : (ev.passExamine q).st.kept = ev.st.kept := by
  unfold Ev.passExamine
  split
  · rfl
  · dsimp only; rw [Ev.kept_passTest]; simp

@[simp] theorem Ev.kept_passHanded (q : Nat) : (ev.passHanded q).st.kept = ev.st.kept := by
  unfold Ev.passHanded
  split
  · rfl
  · split
    · rfl
    · split <;> simp

@[simp] theorem Ev.kept_addTodo (v e : Nat) : (ev.addTodo v e).st.kept = ev.st.kept :=
  Ev.kept_foldl (fun (ev : Ev) (p : Pass) => (ev.map fun s => s.updPass p.seq fun q =>
    { q with todo := q.todo.orderedInsert (· ≤ ·) e }).kickPass p.seq) (fun _ _ => rfl) _ _

@[simp] theorem Ev.st_kickOnKey (v e : Nat) : (ev.kickOnKey v e).st = ev.st :=
  Ev.st_foldl (fun (ev : Ev) (p : Pass) => ev.kickPass p.seq) (fun _ _ => rfl) _ _

@[simp] theorem Ev.st_kickOnVolume (v : Nat) : (ev.kickOnVolume v).st = ev.st := by
  unfold Ev.kickOnVolume
  split
  · rfl
  · exact Ev.st_foldl (fun (ev : Ev) (p : Pass) => ev.kickPassCow p.seq) (fun _ _ => rfl) _ _

@[simp] theorem State.kept_takePass (v : Nat) (c : PassCause) : (s.takePass v c).kept = s.kept := rfl

/-! ### Copy-on-write -/

@[simp] theorem State.kept_startCow (v e : Nat) (k : ShelfNo) (h : Head) (t : Tag) (r g : Nat) :
    (s.startCow v e k h t r g).kept = s.kept := by
  unfold State.startCow
  split
  · dsimp only
    rw [State.kept_setEntry]
    refine Eq.trans (State.kept_updShelf _ _ _ ?_) ?_
    · intro x; exact x.fixed_takeFree _ _
    rw [State.kept_setCow]
  all_goals rfl

@[simp] theorem Ev.kept_cowEnded (v e : Nat) : (ev.cowEnded v e).st.kept = ev.st.kept := by
  unfold Ev.cowEnded; simp

@[simp] theorem Ev.kept_cowGrant (c : Cow) : (ev.cowGrant c).st.kept = ev.st.kept := by
  unfold Ev.cowGrant; split <;> simp

@[simp] theorem Ev.kept_cowFinish (n : Nat) (c : Cow) : (ev.cowFinish n c).st.kept = ev.st.kept := by
  unfold Ev.cowFinish; dsimp only
  rw [Ev.kept_cowEnded, Ev.st_map]
  show (State.endWait _ _ _).kept = _
  rw [State.kept_endWait, Ev.kept_cowGrant, Ev.kept_dropRef, Ev.st_map]
  exact (State.kept_updShelf _ _ (fun x => x.setSlot _ _ _) (fun _ => rfl)).trans (State.kept_setEntry _ _ _ _)

@[simp] theorem Ev.kept_cowGiveUp (n : Nat) (c : Cow) : (ev.cowGiveUp n c).st.kept = ev.st.kept := by
  unfold Ev.cowGiveUp; dsimp only
  rw [Ev.kept_cowEnded, Ev.st_map]
  show (State.endWait _ _ _).kept = _
  rw [State.kept_endWait, State.kept_setEntry]

@[simp] theorem Ev.kept_cowCopied (n : Nat) : (ev.cowCopied n).st.kept = ev.st.kept := by
  unfold Ev.cowCopied
  split
  · rfl
  · split <;> simp

@[simp] theorem Ev.kept_cowCleared (n : Nat) : (ev.cowCleared n).st.kept = ev.st.kept := by
  unfold Ev.cowCleared
  split
  · rfl
  · split <;> simp

@[simp] theorem State.kept_pushFault (h : Head) (f : FaultRec) : (s.pushFault h f).kept = s.kept := by
  unfold State.pushFault
  split
  · rfl
  · exact s.kept_updHead h _ rfl

@[simp] theorem Ev.kept_cowRetry (n : Nat) (c : Cow) (k : ShelfNo) : (ev.cowRetry n c k).st.kept = ev.st.kept := by
  unfold Ev.cowRetry
  rw [Ev.st_runShelf, Ev.st_map, State.kept_evalCond, State.kept_setCow, State.kept_updVolume]
  exact State.kept_updShelf _ _ _ (fun x => x.fixed_takeFree _ _)

@[simp] theorem Ev.kept_cowFailed (n : Nat) (cause : CopyFail) : (ev.cowFailed n cause).st.kept = ev.st.kept := by
  unfold Ev.cowFailed
  split
  · rfl
  · dsimp only
    split
    · split <;> simp
    · simp

/-! ### Closing -/

@[simp] theorem Ev.kept_passClosed (q : Nat) : (ev.passClosed q).st.kept = ev.st.kept := by
  unfold Ev.passClosed; simp

@[simp] theorem Ev.kept_partyActs (p : RevParty) : (ev.partyActs p).st.kept = ev.st.kept := by
  cases p <;> simp [Ev.partyActs]

@[simp] theorem Ev.kept_todoOnClose (v e : Nat) : (ev.todoOnClose v e).st.kept = ev.st.kept := by
  unfold Ev.todoOnClose; split <;> simp

@[simp] theorem Ev.kept_closeRev (r : Rev) : (ev.closeRev r).st.kept = ev.st.kept := by
  unfold Ev.closeRev; dsimp only
  rw [Ev.kept_deleteEndTest, Ev.st_kickOnKey, Ev.kept_jobOnClose, Ev.kept_todoOnClose, Ev.kept_partyActs]; rfl

@[simp] theorem Ev.kept_closeEmpty (fuel : Nat) : (Ev.closeEmpty fuel ev).st.kept = ev.st.kept := by
  induction fuel generalizing ev with
  | zero => rfl
  | succ n ih =>
    unfold Ev.closeEmpty
    split
    · rfl
    · exact (ih _).trans (Ev.kept_closeRev _ _)

@[simp] theorem Ev.kept_leaveAwaited (v e : Nat) (h : Head) : (ev.leaveAwaited v e h).st.kept = ev.st.kept := by
  unfold Ev.leaveAwaited
  split
  · rfl
  · dsimp only
    split
    · rw [Ev.kept_closeRev]; rfl
    · rfl

@[simp] theorem Ev.kept_stripHead (h : Head) : (ev.stripHead h).st.kept = ev.st.kept := by
  unfold Ev.stripHead; dsimp only
  rw [Ev.kept_closeEmpty]
  exact ev.kept_dropAllHolders h

@[simp] theorem State.kept_mapWaiters (f : Waiter → Waiter) : (s.mapWaiters f).kept = s.kept := by
  have : (s.mapWaiters f).shelves.map Shelf.fixed = s.shelves.map Shelf.fixed := by
    simp only [State.mapWaiters, Vector.map_map]; rfl
  simp only [State.kept, this]; rfl

@[simp] theorem State.kept_markFenced (h : Head) : (s.markFenced h).kept = s.kept := s.kept_mapWaiters _
@[simp] theorem State.kept_markDetached (h : Head) : (s.markDetached h).kept = s.kept := s.kept_mapWaiters _

@[simp] theorem Ev.kept_leaveHeldIf (p : Held → Bool) (st : Option Status) :
    (ev.leaveHeldIf p st).st.kept = ev.st.kept := by
  unfold Ev.leaveHeldIf; dsimp only
  split
  · rfl
  · exact State.kept_foldl (fun s (x : Held) => State.refuse s x.head x.tag _) (fun s x => s.kept_refuse _ _ _) _ _

/-! ### Held requests and the end of an event -/

@[simp] theorem Ev.kept_hold (h : Head) (t : Tag) (q : HeldReq) (r : Reason) (own : Option Nat) :
    (ev.hold h t q r own).st.kept = ev.st.kept := by
  unfold Ev.hold
  split
  · rfl
  · split
    · rfl
    · exact ev.st.kept_refuse h t .backlog

@[simp] theorem Ev.kept_leave (own : Option Nat) : (ev.leave own).st.kept = ev.st.kept := by
  cases own <;> simp [Ev.leave]

@[simp] theorem State.kept_readAnswer (h : Head) (t : Tag) (v lba n : Nat) :
    (s.readAnswer h t v lba n).kept = s.kept := by
  unfold State.readAnswer; dsimp only
  rw [State.kept_reply]
  exact State.kept_foldl (fun s (g : Seg) => State.touchHolder s v g.ext h) (fun _ _ => rfl) _ _

@[simp] theorem Ev.kept_readMap (h : Head) (t : Tag) (v lba n : Nat) (own : Option Nat) :
    (ev.readMap h t v lba n own).st.kept = ev.st.kept := by
  unfold Ev.readMap; split <;> simp

@[simp] theorem State.kept_commitMap (h : Head) (t : Tag) (v : Nat) (segs : List Seg) (picks : List ShelfNo)
    (c : ShelfNo) (id : Nat) : (s.commitMap h t v segs picks c id).kept = s.kept := by
  have h1 : ∀ (l : List (Seg × ShelfNo)) (x : State),
      (l.foldl (fun s p => State.startCow s v p.1.ext p.2 h t id (segs.idxOf p.1)) x).kept = x.kept :=
    State.kept_foldl (fun s (p : Seg × ShelfNo) => State.startCow s v p.1.ext p.2 h t id (segs.idxOf p.1))
      (fun s p => s.kept_startCow _ _ _ _ _ _ _)
  have h2 : ∀ (l : List (Seg × ShelfNo)) (x : State),
      (l.foldl (fun s p => State.commitFresh s v p.1.ext p.2) x).kept = x.kept :=
    State.kept_foldl (fun s (p : Seg × ShelfNo) => State.commitFresh s v p.1.ext p.2)
      (fun s p => s.kept_commitFresh _ _ _)
  unfold State.commitMap; dsimp only
  split
  · rw [h1, h2]
  · rw [State.kept_updVolume, h1, h2]

@[simp] theorem State.kept_commitGrant (v : Nat) (h : Head) (id : Nat) (g : ReplySeg) :
    (s.commitGrant v h id g).kept = s.kept := by
  unfold State.commitGrant; dsimp only
  split
  · simp
  · split <;> simp
  · split <;> simp

@[simp] theorem State.kept_commit (h : Head) (t : Tag) (v : Nat) (segs : List Seg) (picks : List ShelfNo)
    (c : ShelfNo) : (s.commit h t v segs picks c).kept = s.kept := by
  have h2 : ∀ (b : Bool) (x : State) (r : ReplyRec),
      (if b = true then x else { x with replies := x.replies ++ [r], replySeq := x.replySeq + 1 }).kept = x.kept := by
    intro b x r; cases b <;> rfl
  unfold State.commit; dsimp only
  have key : ∀ (x : State) (P : Prop) [Decidable P] (r : ReplyRec), (if P then x.sendWriteReply r else x).kept = x.kept := by
    intro x P _ r; split <;> simp
  rw [key]
  have key2 : ∀ (x : State) (P : Prop) [Decidable P] (n b : Nat),
      (if P then x else (x.markTest v).tenantLimitTest n b).kept = x.kept := by
    intro x P _ n b; split <;> simp
  rw [key2, State.kept_foldl State.evalCond (fun s k => s.kept_evalCond k),
    State.kept_foldl (fun s g => State.commitGrant s v h _ g) (fun s g => s.kept_commitGrant _ _ _ _)]
  split
  · simp
  · exact s.kept_commitMap h t v segs picks c _

@[simp] theorem Ev.kept_writeMap (h : Head) (t : Tag) (v lba n : Nat) (own : Option Nat) :
    (ev.writeMap h t v lba n own).st.kept = ev.st.kept := by
  unfold Ev.writeMap
  split
  · simp
  · simp
  · dsimp only
    rw [Ev.st_foldl Ev.runShelf (fun _ _ => rfl)]; simp

@[simp] theorem Ev.kept_volFreeze (h : Head) (t : Tag) (v : Nat) (own : Option Nat) :
    (ev.volFreeze h t v own).st.kept = ev.st.kept := by
  unfold Ev.volFreeze; split <;> simp

theorem State.kept_reserve (n : Nat) : ({ s with reserved := n } : State).kept = s.kept := rfl

@[simp] theorem State.kept_acceptClone (v p : Nat) : (s.acceptClone v p).kept = s.kept := by
  unfold State.acceptClone; dsimp only
  rw [State.kept_queueJob, State.kept_reserve, State.kept_updTenant]
  · rw [State.kept_setFamily, State.kept_setVolume]; rfl
  · intro _; rfl

@[simp] theorem Ev.kept_volClone (h : Head) (t : Tag) (v p : Nat) (own : Option Nat) :
    (ev.volClone h t v p own).st.kept = ev.st.kept := by
  unfold Ev.volClone; split <;> simp

@[simp] theorem Ev.kept_reexamine (x : Held) : (ev.reexamine x).st.kept = ev.st.kept := by
  unfold Ev.reexamine; dsimp only; split <;> simp

@[simp] theorem Ev.kept_heldPass (fuel : Nat) : (Ev.heldPass fuel ev).st.kept = ev.st.kept := by
  induction fuel generalizing ev with
  | zero => rfl
  | succ n ih =>
    unfold Ev.heldPass
    split
    · rfl
    · rw [ih, Ev.kept_reexamine]

@[simp] theorem Ev.kept_passTurn (q : Nat) : (ev.passTurn q).st.kept = ev.st.kept := by
  unfold Ev.passTurn; split
  · simp
  · split <;> simp

@[simp] theorem Ev.kept_passTurns (l : List Nat) : (ev.passTurns l).1.st.kept = ev.st.kept := by
  induction l generalizing ev with
  | nil => rfl
  | cons q l ih => exact (ih (ev.passTurn q)).trans (ev.kept_passTurn q)

@[simp] theorem Ev.kept_handOut : ev.handOut.st.kept = ev.st.kept := by
  have h : ev.handOut.st.kept = ((if ev.rel.contains .revokeRoom then ev.jobOnRecord else ev).passTurns
      ((if ev.rel.contains .revokeRoom then ev.jobOnRecord else ev).st.passes.map Pass.seq)).1.st.kept := rfl
  rw [h, Ev.kept_passTurns]
  split <;> simp

@[simp] theorem Ev.kept_rounds (fuel : Nat) : (Ev.rounds fuel ev).st.kept = ev.st.kept := by
  induction fuel generalizing ev with
  | zero => rfl
  | succ n ih =>
    unfold Ev.rounds; dsimp only
    split
    · simp
    · rw [ih]; simp

@[simp] theorem State.kept_reclaimAt (n : Nat) : (s.reclaimAt n).kept = s.kept := by
  show (State.reclaimEnd { s with sent := s.sent.take n ++ (s.sent.drop n).takeWhile fun x => !x.isReply }).kept = s.kept
  rw [State.kept_reclaimEnd]; rfl

/-- The settling of an event keeps what `State.kept` holds. -/
@[simp] theorem Ev.kept_finish : ev.finish.kept = ev.st.kept := by
  unfold Ev.finish; dsimp only; split <;> simp

end Sys2Proof.Machine
end

