-- ==== Sys2Proof/Laws/Take.lean ====
section
/-! SUPPORT. The taking of a request (R169), the answer to it, and the order of checks (R134), said once. -/

namespace Sys2Proof.Machine

variable {s : State} {h : Head} {t : Tag}

theorem State.take_dark (sf : Bool) (serve : State → State) (hl : (s.head h).link = .dark) :
    s.take h t sf serve = s := by
  simp [State.take, hl]

theorem State.take_busy (sf : Bool) (serve : State → State) (hl : (s.head h).link ≠ .dark)
    (ht : t ∈ (s.head h).tags) : s.take h t sf serve = s.emit (.reply h t .tagBusy (.words [])) := by
  cases hk : (s.head h).link <;> simp_all [State.take]

theorem State.take_up (sf : Bool) (serve : State → State) (hl : (s.head h).link = .up)
    (ht : t ∉ (s.head h).tags) : s.take h t sf serve = serve (s.openTag h t) := by
  simp [State.take, hl, ht]

theorem State.take_fenced_served (serve : State → State) (hl : (s.head h).link = .fenced)
    (ht : t ∉ (s.head h).tags) : s.take h t true serve = serve (s.openTag h t) := by
  simp [State.take, hl, ht]

/-- A kind that a FENCED link serves is served on every link that is not DARK (R169 step 3). -/
theorem State.take_served (serve : State → State) (hl : (s.head h).link ≠ .dark) (ht : t ∉ (s.head h).tags) :
    s.take h t true serve = serve (s.openTag h t) := by
  cases hk : (s.head h).link
  · exact absurd hk hl
  · exact State.take_up _ _ hk ht
  · exact State.take_fenced_served _ hk ht

/-- A tag that was opened and freed leaves the head as it was, whatever else has changed meanwhile. -/
theorem State.reply_of_openTag {x : State} (st : Status) (b : ReplyBody) (hx : x.heads = (s.openTag h t).heads) :
    x.reply h t st b = { x with heads := s.heads, sent := x.sent ++ [.reply h t st b] } := by
  have hh : (x.freeTag h t).heads = s.heads := by
    have e1 : x.head h = { s.head h with tags := t :: (s.head h).tags } := by
      have : x.head h = (s.openTag h t).head h := by simp [State.head, hx]
      rw [this, State.openTag, State.head_updHead_same]
    have e2 : (x.freeTag h t).heads = x.heads.set h { x.head h with tags := (x.head h).tags.erase t } := rfl
    rw [e2, e1, hx]
    have e3 := congrArg State.heads (State.setHead_self s h)
    simpa [State.openTag, State.updHead, State.setHead] using e3
  show ({ x.freeTag h t with sent := x.sent ++ [.reply h t st b] } : State) = _
  have : x.freeTag h t = { x with heads := (x.freeTag h t).heads } := rfl
  rw [this, hh]

/-- A change of the requester's record that does not touch its tags, and the answer. -/
theorem State.reply_updHead_openTag (f : HeadRec → HeadRec) (st : Status) (b : ReplyBody)
    (hf : f { s.head h with tags := t :: (s.head h).tags } = { f (s.head h) with tags := t :: (f (s.head h)).tags }) :
    ((s.openTag h t).updHead h f).reply h t st b = (s.updHead h f).emit (.reply h t st b) := by
  have e1 : (s.openTag h t).updHead h f = s.setHead h { f (s.head h) with tags := t :: (f (s.head h)).tags } := by
    rw [← hf]; simp [State.openTag, State.updHead, State.setHead, State.head]
  have e2 : ((s.openTag h t).updHead h f).freeTag h t = s.updHead h f := by
    rw [e1]; simp [State.freeTag, State.updHead, State.setHead, State.head]
  show (State.freeTag _ h t).emit _ = _
  rw [e2]

theorem State.refuse_openTag (st : Status) :
    (s.openTag h t).refuse h t st = { s with sent := s.sent ++ [.reply h t st (.words [])] } :=
  State.reply_of_openTag st _ rfl

theorem State.take_fenced_refused (serve : State → State) (hl : (s.head h).link = .fenced)
    (ht : t ∉ (s.head h).tags) :
    s.take h t false serve = { s with sent := s.sent ++ [.reply h t .fenced (.words [])] } := by
  simp [State.take, hl, ht, State.refuse_openTag]

/-! The order of checks -/

@[simp] theorem firstFail_nil : firstFail [] = none := rfl
@[simp] theorem firstFail_some (st : Status) (l : List (Option Status)) : firstFail (some st :: l) = some st := rfl
@[simp] theorem firstFail_none (l : List (Option Status)) : firstFail (none :: l) = firstFail l := rfl
@[simp] theorem failIf_true (st : Status) : failIf true st = some st := rfl
@[simp] theorem failIf_false (st : Status) : failIf false st = none := rfl

theorem State.judge_fail {checks : List (Option Status)} {st : Status} (serve : State)
    (hc : firstFail checks = some st) : s.judge h t checks serve = s.refuse h t st := by
  simp [State.judge, hc]

theorem State.judge_pass {checks : List (Option Status)} (serve : State) (hc : firstFail checks = none) :
    s.judge h t checks serve = serve := by
  simp [State.judge, hc]

end Sys2Proof.Machine
end

