-- ==== Sys2Proof/Tests/Slice0.lean ====
section
/-! SUPPORT. Tests of the model on small states: the checks of WellFormed, frames written from Tables 10-1 and 10-3, the
examples of the spec, one step of most commands, and for each obligation with hypotheses a state that meets them. -/

namespace Sys2Proof.Tests

open Sys2Proof.Machine

/-! ### Small states -/

/-- The state after a command. -/
def after (c : Instr) (s : State) : State :=
  match exec c s with
  | .next t => t
  | .fault f => nomatch f
  | .refused _ => s

/-- A head whose link is UP, with every class masked. -/
def upHead : HeadRec := { HeadRec.initial with link := .up }

/-- An ONLINE shelf of 16 slots: 0 and 1 IN-USE, 2 to 14 FREE, 15 the label. -/
def shelfA : Shelf :=
  { Shelf.initial with
    state := .online, capacity := 16, label := 5, lowMark := 3, reserve := 1, baseLevel := 2, level := 2
    pet := List.replicate 2 ⟨.inUse, 1⟩ ++ List.replicate 13 ⟨.free, 0⟩ ++ [⟨.label, 0⟩]
    freeList := (List.range 13).map (· + 2), linkUp := true, stepTimer := some 250 }

/-- An ACTIVE volume whose extents 0 and 1 stand on slots 0 and 1 of shelf 0. -/
def volA : Volume :=
  { Volume.freeRecord with
    state := .active, size := 300, quota := 300, allocated := 2, mask := 0xff#8, pageCount := 1
    dir := [(0, ⟨7, [(0, .mapped 0 0), (1, .mapped 0 1)]⟩)] }

/-- Heads 0, 1 and 2 UP, head 3 DARK; shelf 0 and volume 0 as above; head 0 holds WRITE on key (0, 0). -/
def w : State :=
  { State.reset with
    heads := #v[upHead, upHead, upHead, HeadRec.initial]
    shelves := (Vector.replicate 8 Shelf.initial).set 0 shelfA
    volumes := [(0, volA)], families := [(0, 1)], tenants := [(0, ⟨100, 2, 0, 1⟩)], poolFree := 65535
    grants := [⟨0, 0, #v[some .write, none, none, none]⟩] }

/-- The state with shelf 0 changed. -/
def shelfW (f : Shelf → Shelf) : State := w.updShelf 0 f

/-- The state with volume 0 in another state. -/
def volW (st : VolState) : State := w.updVolume 0 fun r => { r with state := st }

/-- Head 1 FENCED. -/
def wFenced : State := w.updHead 1 fun r => { r with link := .fenced }

/-- Slot 1 shared: clone 1 of volume 0 maps it too. -/
def wShared : State :=
  { (w.updShelf 0 fun sh => sh.setSlot 1 .inUse 2) with
    volumes := [(0, volA), (1, { volA with dir := [(0, ⟨8, [(1, .mapped 0 1)]⟩)], allocated := 1 })]
    families := [(0, 2)], tenants := [(0, ⟨100, 3, 0, 2⟩)], poolFree := 65534 }

/-- Shelf 0 with one order in flight under tag 3 with serial 9. -/
def flight (o : Order) (st : ShelfState) (sh : Shelf) : Shelf :=
  { sh with state := st, inFlight := [⟨3, 9, o, 1000⟩], serial := 10 }

/-- Head 1 waits for a COW on key (0, 1) to slot 2, its COPY in flight; the revocation is CLEAR or awaits head 2. -/
def wCow (clear : Bool) (attempt : Nat) : State :=
  let s := wShared.updShelf 0 fun sh => flight (.copy 0 1 2 0) .online ((sh.takeFree .copyTarget 0))
  { ((s.setEntry 0 1 (.pending 0 1 0)).openTag 1 4) with
    cows := [(0, ⟨0, 1, 0, 1, 0, 2, false, clear, attempt, 1, 4, 6, 0⟩)]
    replies := [⟨6, ⟨1, 4, false, false⟩, 0, [⟨.shared, 1, 0, 8, false⟩], 1, false⟩], replySeq := 7
    grants := [⟨0, 1, #v[none, some .read, if clear then none else some .read, none]⟩]
    revs := if clear then [] else [⟨0, 1, .cow, [2], 40, .cow 0⟩] }

/-- The same, with marks on the requester that waits. -/
def wCowMarked (clear : Bool) (attempt : Nat) (fenced detached : Bool) : State :=
  { wCow clear attempt with
    replies := [⟨6, ⟨1, 4, fenced, detached⟩, 0, [⟨.shared, 1, 0, 8, false⟩], 1, false⟩] }

/-- Head 1 waits for head 0 to give up its READ grant on key (0, 1). -/
def wAlloc : State :=
  { (w.openTag 1 4) with
    grants := [⟨0, 1, #v[some .read, some .write, none, none]⟩]
    revs := [⟨0, 1, .alloc, [0], 40, .reply 6⟩]
    replies := [⟨6, ⟨1, 4, false, false⟩, 0, [⟨.fresh, 1, 0, 8, true⟩], 1, false⟩], replySeq := 7 }

/-- The same, with marks on the requester that waits. -/
def wMarked (fenced detached : Bool) : State :=
  { wAlloc with replies := [⟨6, ⟨1, 4, fenced, detached⟩, 0, [⟨.fresh, 1, 0, 8, true⟩], 1, false⟩] }

/-- Requests held while head 0 is to give up its READ grant on key (0, 1), which reclaim takes. -/
def wReclaim (held : List Held) : State :=
  { w with
    grants := [⟨0, 1, #v[some .read, none, none, none]⟩], revs := [⟨0, 1, .reclaim, [0], 40, .reclaim⟩]
    held := held, heldSeq := 9 }

/-- Head 2 holds READ on key (0, 3), whose extent is a hole. -/
def wOther : State := { w with grants := [⟨0, 3, #v[none, none, some .read, none]⟩] }

/-- Slots 0 and 1 both shared. -/
def wBoth : State := wShared.updShelf 0 fun sh => sh.setSlot 0 .inUse 2

/-- Slot 1, shared, mapped by extent 3 of volume 0. -/
def wMoved : State := wShared.updVolume 0 fun r => { r with dir := [(0, ⟨7, [(3, .mapped 0 1)]⟩)] }

/-- A VOL-FREEZE of head 1 waits for the DOWNGRADE record of key (0, 0). -/
def wFreezing (fenced detached : Bool) : State :=
  { w with
    revs := [⟨0, 0, .downgrade, [0], 40, .pass 3⟩], passSeq := 4
    passes := [⟨3, 0, .freeze ⟨1, 4, fenced, detached⟩, [], 1, none⟩] }

/-- No revocation record is free. -/
def wNoRecord : State := { w with revs := (List.range 64).map fun i => ⟨9, i, .trim, [2], 40, .orphan⟩ }

/-- One revocation record is free, and two keys have a WRITE holder. -/
def wOneRecord : State :=
  { w with
    revs := (List.range 63).map fun i => ⟨9, i, .trim, [2], 40, .orphan⟩
    grants := [⟨0, 0, #v[some .write, none, none, none]⟩, ⟨0, 1, #v[none, none, some .write, none]⟩] }

/-- So many grant entries, each with a READ holder. -/
def wGrants (n : Nat) : State :=
  { w with grants := (List.range n).map fun i => ⟨0, i, #v[some .read, none, none, none]⟩ }

/-- A TRIM of extents 0 and 1 of volume 0 at the head of the queue. -/
def wTrim (cursor : Nat) (gs : List Grant) : State :=
  { w with jobs := [⟨4, .trim 0 0 2, cursor, 2, .running, 0⟩], grants := gs, nextJob := 5 }

/-- A JOB-PAUSE of head 1, fenced since, waits for a TRIM step that awaits head 0 on extent c. -/
def wPausing (c : Nat) : State :=
  { wTrim c [⟨0, c, #v[some .write, none, none, none]⟩] with
    revs := [⟨0, c, .trim, [0], 40, .job⟩], jobWait := .revocation 0 c, pause := some ⟨1, 4, true, false⟩ }

/-- A CLONE of volume 0 as volume 1 at the head of the queue, its pass ended. -/
def wClone : State :=
  { w with
    volumes := [(0, { volA with state := .source, prior := some .active }),
      (1, { Volume.freeRecord with state := .building, size := 300, quota := 300, mask := 0xff#8 })]
    families := [(0, 2)], tenants := [(0, ⟨100, 2, 2, 2⟩)], reserved := 1, grants := []
    jobs := [⟨4, .clone 1 0, 0, 0, .running, 0⟩], nextJob := 5 }

/-- A DELETE of volume 0 at the head of the queue, its map empty; head 2 holds a HOLE on it. -/
def wDelete (cursor : Nat) : State :=
  { wOther with
    volumes := [(0, { volA with state := .deleting, allocated := 0, pageCount := 0, dir := [] })]
    tenants := [(0, ⟨100, 0, 0, 1⟩)], poolFree := 65536
    jobs := [⟨4, .delete 0, cursor, 300, .running, 2⟩], nextJob := 5 }

/-- The state with four pass records in use. -/
def wPasses (s : State) : State :=
  { s with passes := (List.range 4).map fun i => ⟨i, 9, .clone 200, [], 1, none⟩, passSeq := 4 }

/-- The state with so many held requests. -/
def wHeld (n : Nat) (s : State) : State :=
  { s with held := (List.range n).map fun i => ⟨2, Fin.ofNat 16 i, .volClone 6 7, .cowRoom, i⟩, heldSeq := n }

/-- The state with so many jobs, numbered from 255 on. -/
def wJobs (n : Nat) : State :=
  { w with jobs := (List.range n).map fun i => ⟨(255 + i) % 256, .delete (500 + i), 0, 1, .waiting, 0⟩, nextJob := 255 }

/-! ### WellFormed: one ill-formed command for each check -/

theorem test_wellFormed_refuses :
    ([.badKind 0 0 1, .badKind 0 0 256, .readMap 0 0 65536 0 1, .readMap 0 0 0 4294967296 1, .readMap 0 0 0 0 65536,
      .writeMap 0 0 65536 0 1, .grantDrop 0 0 65536 0, .revokeAck 0 0 0 4294967296, .volMake 0 0 65536 0 1 1 1 1,
      .volMake 0 0 0 256 1 1 1 1, .volMake 0 0 0 0 4294967296 1 1 1, .volMake 0 0 0 0 1 16777216 1 1,
      .volMake 0 0 0 0 1 1 1 256, .volGrow 0 0 65536 1, .volGrow 0 0 0 4294967296, .volQuota 0 0 65536 0,
      .volQuota 0 0 0 4294967296, .volMark 0 0 65536 0, .volMark 0 0 0 65536, .volMask 0 0 65536 1,
      .volFreeze 0 0 65536, .volThaw 0 0 65536, .volHold 0 0 65536, .volUnhold 0 0 65536, .volDrop 0 0 65536,
      .volRead 0 0 65536, .volTrim 0 0 65536 0 1, .volTrim 0 0 0 4294967296 1, .volTrim 0 0 0 0 4294967296,
      .volClone 0 0 65536 0, .volClone 0 0 0 65536, .tenantSet 0 0 65536 0, .tenantSet 0 0 0 4294967296,
      .tenantRead 0 0 65536, .shelfJoin 0 0 256 16 0 0 0 0 true, .shelfJoin 0 0 0 0 0 0 0 0 true,
      .shelfJoin 0 0 0 65537 0 0 0 0 true, .shelfJoin 0 0 0 16 4294967296 0 0 0 true,
      .shelfJoin 0 0 0 16 0 65536 0 0 true, .shelfJoin 0 0 0 16 0 0 65536 0 true, .shelfJoin 0 0 0 16 0 0 0 16 true,
      .shelfTune 0 0 256 0 0 0, .shelfTune 0 0 0 65536 0 0, .shelfTune 0 0 0 0 65536 0, .shelfTune 0 0 0 0 0 16,
      .shelfPart 0 0 256, .shelfRead 0 0 256, .zeroDone 0 32 0, .zeroDone 0 0 65536, .zeroFault 0 32 0 .media,
      .copyDone 0 32 0, .copyFault 0 32 0 .media, .labelReadDone 0 32 0 0, .labelReadDone 0 0 0 4294967296,
      .labelReadFault 0 32 0 .media, .labelWriteDone 0 32 0, .labelWriteFault 0 32 0 .media, .orderTimeout 0 32,
      .revokeExpiry 1024 0, .revokeExpiry 0 1048576] : List Instr).all (fun c => !c.wellFormed) = true := by decide +kernel

/-- A frame that passes the check of R168 is no FRAME_DISCARD. -/
theorem test_wellFormed_refuses_goodFrame :
    (Instr.frameDiscard 0 (requestFrame 0 61 0 0 0 0)).wellFormed = false := by decide +kernel

/-! ### Frames, written byte by byte from Tables 10-1 and 10-3; their checks computed outside the model -/

/-- The check value that CRC-16 with these parameters has on the nine digits "123456789". -/
theorem test_crc16_check_value :
    crc16 [0x31#8, 0x32#8, 0x33#8, 0x34#8, 0x35#8, 0x36#8, 0x37#8, 0x38#8, 0x39#8] = 0x29b1#16 := by decide +kernel

theorem test_decode_readMap : decodeFrame 1
    [3#8, 1#8, 1#8, 0x2c#8, 0#8, 4#8, 3#8, 0x58#8,
      0#8, 0#8, 0#8, 0#8, 4#8, 0#8, 0xda#8, 8#8] =
    .readMap 1 3 300 263000 1024 := by decide +kernel

theorem test_decode_writeMap : decodeFrame 1
    [0x0f#8, 2#8, 3#8, 0xff#8, 0xff#8, 0xff#8, 0xff#8, 0xff#8,
      0#8, 0#8, 0#8, 0#8, 0xff#8, 0xff#8, 0xc9#8, 0x5d#8] =
    .writeMap 1 15 1023 4294967295 65535 := by decide +kernel

theorem test_decode_grantDrop : decodeFrame 1
    [0#8, 3#8, 0#8, 5#8, 0#8, 0x0f#8, 0xff#8, 0xff#8,
      0#8, 0#8, 0#8, 0#8, 0#8, 0#8, 0x46#8, 0xab#8] =
    .grantDrop 1 0 5 1048575 := by decide +kernel

theorem test_decode_revokeAck : decodeFrame 1
    [2#8, 4#8, 0#8, 5#8, 0#8, 0#8, 0#8, 9#8,
      0#8, 0#8, 0#8, 0#8, 0#8, 0#8, 0xf8#8, 0xc7#8] =
    .revokeAck 1 2 5 9 := by decide +kernel

theorem test_decode_volMake : decodeFrame 1
    [1#8, 0x10#8, 1#8, 0x2c#8, 0#8, 0x10#8, 0#8, 0#8,
      0xc8#8, 0x89#8, 0x54#8, 0x40#8, 0x83#8, 0x5a#8, 0xe3#8, 0x4a#8] =
    .volMake 1 1 300 200 1048576 9000000 0x83#8 90 := by decide +kernel

theorem test_decode_volMark : decodeFrame 1
    [1#8, 0x13#8, 0#8, 7#8, 0#8, 0#8, 0#8, 0#8,
      0#8, 0#8, 0#8, 0#8, 0#8, 0x50#8, 0x78#8, 0x52#8] =
    .volMark 1 1 7 80 := by decide +kernel

theorem test_decode_volMask : decodeFrame 1
    [1#8, 0x14#8, 0#8, 7#8, 0#8, 0#8, 0#8, 0#8,
      0#8, 0#8, 0#8, 0#8, 0#8, 0x0f#8, 0x19#8, 0x40#8] =
    .volMask 1 1 7 0x0f#8 := by decide +kernel

theorem test_decode_volHold : decodeFrame 1
    [1#8, 0x17#8, 0#8, 7#8, 0#8, 0#8, 0#8, 0#8,
      0#8, 0#8, 0#8, 0#8, 0#8, 0#8, 0x27#8, 0x0a#8] =
    .volHold 1 1 7 := by decide +kernel

theorem test_decode_volTrim : decodeFrame 1
    [9#8, 0x1d#8, 0#8, 7#8, 0#8, 0#8, 0#8, 0x64#8,
      0#8, 0#8, 0#8, 0xc8#8, 0#8, 0#8, 0xb0#8, 0x77#8] =
    .volTrim 1 9 7 100 200 := by decide +kernel

theorem test_decode_volClone : decodeFrame 1
    [9#8, 0x1e#8, 1#8, 0x2d#8, 0#8, 0#8, 0#8, 0#8,
      0#8, 0#8, 0#8, 0#8, 1#8, 0x2c#8, 0xff#8, 0xb5#8] =
    .volClone 1 9 301 300 := by decide +kernel

theorem test_decode_tenantSet : decodeFrame 1
    [4#8, 0x20#8, 0#8, 0#8, 0#8, 1#8, 0x11#8, 0x70#8,
      0#8, 0#8, 0#8, 0#8, 0#8, 0xff#8, 0x72#8, 0x72#8] =
    .tenantSet 1 4 255 70000 := by decide +kernel

theorem test_decode_shelfJoin : decodeFrame 1
    [5#8, 0x28#8, 0x85#8, 6#8, 0x20#8, 0#8, 2#8, 0#8,
      0xca#8, 0xfe#8, 0xba#8, 0xbe#8, 0xff#8, 0xff#8, 0x43#8, 0x84#8] =
    .shelfJoin 1 5 6 65536 3405691582 8192 512 5 true := by decide +kernel

theorem test_decode_shelfTune : decodeFrame 1
    [5#8, 0x29#8, 7#8, 6#8, 0#8, 0x64#8, 0#8, 0x32#8,
      0#8, 0#8, 0#8, 0#8, 0#8, 0#8, 0xe8#8, 0xe4#8] =
    .shelfTune 1 5 6 100 50 7 := by decide +kernel

theorem test_decode_jobRead : decodeFrame 1
    [6#8, 0x32#8, 0#8, 0#8, 0#8, 0#8, 0#8, 0#8,
      0#8, 0#8, 0#8, 0#8, 0#8, 0#8, 0x13#8, 0x17#8] =
    .jobRead 1 6 := by decide +kernel

theorem test_decode_noteMask : decodeFrame 1
    [7#8, 0x3a#8, 0#8, 0#8, 0#8, 0#8, 0#8, 0#8,
      0#8, 0#8, 0#8, 0#8, 0#8, 0x48#8, 0xaa#8, 0xe0#8] =
    .noteMask 1 7 0x0048#16 := by decide +kernel

theorem test_decode_faultPop : decodeFrame 1
    [8#8, 0x3d#8, 0#8, 0#8, 0#8, 0#8, 0#8, 0#8,
      0#8, 0#8, 0#8, 0#8, 0#8, 0#8, 0x32#8, 0x49#8] =
    .faultPop 1 8 := by decide +kernel

theorem test_decode_badKind : decodeFrame 1
    [8#8, 0x0e#8, 0#8, 0#8, 0#8, 0#8, 0#8, 0#8,
      0#8, 0#8, 0#8, 0#8, 0#8, 0#8, 0xc6#8, 0x30#8] =
    .badKind 1 8 14 := by decide +kernel

/-- A PART notice after power-on, head 2, revision 3: class 6, detail 1 (Table 10-2, R173). -/
theorem test_notice_frame_fields :
    (Notice.frame ⟨.part, 1, 2, 3, 0, 0⟩).take 13 = [6#8, 1#8, 0#8, 2#8, 0#8, 0#8, 0#8, 3#8, 0#8, 0#8, 0#8, 0#8, 0#8] := by
  decide

/-- A reply with one DATA segment: shelf 2, block 1,048,577, length 1,024, write flag set (Table 10-2). -/
theorem test_reply_frame_fields :
    (replyFrame 5 .ok (.segments [⟨.data, 2, 1048577, 1024, true⟩])).take 13 =
      [5#8, 0#8, 1#8, 0#8, 1#8, 2#8, 0#8, 0x10#8, 0#8, 1#8, 4#8, 0#8, 1#8] := by decide

/-! ### The examples of the spec -/

/-- R35: the example of section 2.5, low mark 256. -/
theorem test_due_condition_example :
    dueCond .normal 255 256 = .low ∧ dueCond .normal 256 256 = .normal ∧ dueCond .low 256 256 = .low ∧
      dueCond .low 288 256 = .normal := by decide

/-- R177: the example of section 11.3, quota 2,010 and mark 90. -/
theorem test_mark_example :
    let r := { Volume.freeRecord with quota := 2010, mark := 90, allocated := 1808 }
    r.markTrue = false ∧ { r with allocated := 1809 }.markTrue = true := by decide

/-- R174 and R175: the example of section 11.1. -/
theorem test_missed_count_example :
    let s1 := (w.notify 1 ⟨.shelf, 2, 4, 0, 9, 0⟩).notify 1 ⟨.shelf, 4, 4, 1, 9, 0⟩
    let s2 := (s1.notify 1 ⟨.shelf, 1, 4, 1, 9, 0⟩).notify 1 ⟨.job, 2, 7, 0, 1, 0⟩
    let s3 := after (.noteMask 1 0 0x0010#16) s2
    s3.sent = [.notice 1 ⟨.shelf, 1, 4, 1, 9, 2⟩, .reply 1 0 .ok (.words [16])] ∧
      (s3.head 1).pending.shelf = none ∧ (s3.head 1).pending.job = some ⟨.job, 2, 7, 0, 1, 0⟩ := by decide

/-- R9: the example of section 1.3. Families 0 and 1 in use: VOL-MAKE takes family 2. -/
theorem test_family_example :
    ((after (.volMake 1 0 300 0 10 10 1 0) { w with families := [(0, 1), (1, 1)] }).volume 300).family = 2 := by decide

/-- R82: reclaim starts below 256 free entries and stops at 512. -/
theorem test_reclaim_thresholds :
    reclaimAfter false 256 = false ∧ reclaimAfter false 255 = true ∧ reclaimAfter true 511 = true ∧
      reclaimAfter true 512 = false := by decide

/-- R16: 1,024 blocks from block 512 of extent 3 split in two. -/
theorem test_segments_split : segments (3 * 1024 + 512) 1024 = [⟨3, 512, 512⟩, ⟨4, 0, 512⟩] := by decide

/-- R125 at level 3: with F = 5 the waiting ZERO goes, with F = 4 the foreground order. -/
theorem test_arbiter_level_three :
    let sh := { shelfA with level := 3, orders := [.labelRead 15, .zero 4] }
    ({ sh with fgCount := 5 }).choose = some (true, 0) ∧ ({ sh with fgCount := 4 }).choose = some (false, 5) := by
  decide

/-! ### One step of a command -/

theorem test_queue_takes_front :
    step { w with pending := [.holdPin 1 0, .linkUp 3] } =
      .next { (w.replied 1 0 .ok []) with pin := true, pending := [.linkUp 3] } := rfl

theorem test_readMap_answers_two_segments :
    (after (.readMap 1 0 0 512 1024) w).sent =
      [.reply 1 0 .ok (.segments [⟨.data, 0, 512, 512, false⟩, ⟨.data, 0, 1024, 512, false⟩])] := by decide

theorem test_readMap_hole_and_range :
    (after (.readMap 1 0 0 (299 * 1024) 1024) w).sent = [.reply 1 0 .ok (.segments [⟨.hole, 0, 0, 1024, false⟩])] ∧
      (after (.readMap 1 0 0 (299 * 1024 + 1) 1024) w).sent = [.reply 1 0 .range (.words [])] := by decide

theorem test_writeMap_takes_fresh_extent :
    let t := after (.writeMap 1 0 0 2048 10) w
    t.sent = [.reply 1 0 .ok (.segments [⟨.data, 0, 2048, 10, true⟩])] ∧ t.entry 0 2 = .mapped 0 2 ∧
      t.holder 0 2 1 = some .write := by decide

theorem test_writeMap_shared_waits :
    let t := after (.writeMap 1 0 0 1024 8) wShared
    t.entry 0 1 = .pending 0 1 0 ∧ t.sent = [.order 0 0 0 (.copy 0 1 2 0)] ∧ (t.head 1).tags = [0] := by decide

theorem test_grantDrop_frees_entry :
    (after (.grantDrop 0 0 0 0) w).grants = [] ∧ (after (.grantDrop 1 0 0 0) w).grants = w.grants := by decide

theorem test_revokeAck_ends_wait :
    (after (.revokeAck 0 0 0 1) wAlloc).sent =
      [.reply 0 0 .ok (.words []), .reply 1 4 .ok (.segments [⟨.data, 0, 1024, 8, true⟩])] := by decide +kernel

theorem test_volQuota_clamps :
    (after (.volQuota 1 0 0 1) w).sent = [.reply 1 0 .ok (.words [2])] ∧
      (after (.volQuota 1 0 0 301) w).sent = [.reply 1 0 .ok (.words [300])] := by decide

theorem test_volMark_clamps :
    (after (.volMark 1 0 0 49) w).sent = [.reply 1 0 .ok (.words [50])] ∧
      (after (.volMark 1 0 0 101) w).sent = [.reply 1 0 .ok (.words [100])] := by decide

theorem test_volFreeze_waits_for_writer :
    let t := after (.volFreeze 1 0 0) w
    (t.volume 0).state = .frozen ∧ t.sent = [.notice 0 ⟨.revoke, 5, 0, 0, 0, 0⟩] ∧ (t.head 1).tags = [0] := by decide

theorem test_volDrop_answers_number :
    let t := after (.volDrop 1 0 0) w
    (t.volume 0).state = .deleting ∧ t.sent = [.reply 1 0 .ok (.words [0])] ∧ t.nextJob = 1 := by decide

theorem test_volClone_reserves :
    let t := after (.volClone 1 0 1 0) { w with grants := [] }
    (t.volume 0).state = .source ∧ (t.volume 1).state = .building ∧ t.reserved = 1 ∧ t.tenant 0 = ⟨100, 2, 2, 2⟩ := by
  decide

theorem test_tenantSet_clamps : ((after (.tenantSet 1 0 0 1) w).tenant 0).limit = 2 := by decide

theorem test_shelfJoin_sends_label :
    let t := after (.shelfJoin 1 0 1 16 8 99 99 9 false) (w.updShelf 1 fun sh => { sh with linkUp := true })
    t.sent = [.order 1 0 0 (.labelWrite 15 8)] ∧ (t.shelf 1).lowMark = 15 ∧ (t.shelf 1).reserve = 15 ∧
      (t.shelf 1).baseLevel = 7 := by decide

theorem test_shelfPart_refused_in_use : (after (.shelfPart 1 0 0) w).sent = [.reply 1 0 .shelfBusy (.words [])] := by
  decide

theorem test_jobPause_without_job : (after (.jobPause 1 0) w).sent = [.reply 1 0 .notRunning (.words [])] := by decide

theorem test_linkUp_keeps_part_notice :
    ((after (.linkUp 3) w).head 3).pending.part = some ⟨.part, 1, 3, 3, 0, 0⟩ := by decide

theorem test_linkLoss_frees_grants : (after (.linkLoss 0) w).grants = [] := by decide

theorem test_zeroDone_frees_slot :
    ((after (.zeroDone 0 3 9) (shelfW fun sh => flight (.zero 0) .online (sh.setSlot 0 .scrubbing 0))).shelf 0).freeList =
      shelfA.freeList ++ [0] := by decide

/-- R73, R75: a dispatch makes room for one order. Of two entries that wait for it the older proceeds, in the one pass of
the event; the younger one is held on. -/
theorem test_zeroDone_one_pass :
    let s := { wShared.updShelf 0 fun sh => { sh with
        inFlight := (List.range 32).map fun i => ⟨i, i, if i = 3 then .zero 9 else .copy 1 0 i i, 1000⟩
        orders := (List.range 64).map fun i => .copy 1 0 i i } with
      held := [⟨1, 4, .writeMap 0 1024 8, .orderRoom 0, 0⟩, ⟨2, 5, .writeMap 0 1024 8, .orderRoom 0, 1⟩], heldSeq := 2 }
    let t := after (.zeroDone 0 3 3) s
    t.entry 0 1 = .pending 0 1 0 ∧ (t.shelf 0).orders.length = 64 ∧ t.held.map Held.reason = [.key 0 1] := by
  decide +kernel

theorem test_copyDone_finishes :
    let t := after (.copyDone 0 3 9) (wCow true 1)
    t.entry 0 1 = .mapped 0 2 ∧ t.holder 0 1 1 = some .write := by decide

theorem test_copyFault_gives_up :
    Sent.reply 1 4 .media (.words []) ∈ (after (.copyFault 0 3 9 .source) (wCow true 1)).sent := by decide

theorem test_orderTimeout_third_takes_offline :
    ((after (.orderTimeout 0 3) (shelfW fun sh => { flight (.zero 5) .online sh with timeouts := 2 })).shelf 0).state =
      .offline := by decide

/-- R174: frames of two parts of one event that no rule orders. What was decided for head 2 before its fencing is not
answered behind its FENCE notice (R92). -/
theorem test_frames_apart :
    let job : Sent := .notice 1 ⟨.job, 2, 7, 0, 1, 0⟩
    let fence : Sent := .notice 2 ⟨.fence, 0, 2, 0, 1, 0⟩
    let answer (h : Head) (st : Status) : Sent := .reply h 0 st (.words [])
    Sent.apart [answer 1 .ok] [job, answer 1 .media] = [job, answer 1 .ok, answer 1 .media] ∧
      Sent.apart [answer 1 .ok, answer 2 .ok] [answer 2 .fenced, job, fence] =
        [job, answer 2 .ok, answer 2 .fenced, fence, answer 1 .ok] := by decide

/-- R174: the loss of head 0's link closes the ALLOC record that head 1's WRITE-MAP waits for, and then the record of a
TRIM's last step. No rule orders the two closings, so the JOB notice leaves before the reply. -/
theorem test_linkLoss_notice_before_reply :
    let s : State := { (wAlloc.updHead 1 fun r => { r with masks := ⟨false, false, false, false⟩ }) with
      grants := wAlloc.grants ++ w.grants, revs := wAlloc.revs ++ [⟨0, 0, .trim, [0], 40, .job⟩]
      jobs := [⟨4, .trim 0 0 1, 0, 1, .running, 0⟩], jobWait := .revocation 0 0 }
    (after (.linkLoss 0) s).sent.take 2 =
      [.notice 1 ⟨.job, 2, 4, 0, 1, 0⟩, .reply 1 4 .ok (.segments [⟨.data, 0, 1024, 8, true⟩])] := by decide +kernel

/-- R174: the loss of head 2's link closes two records. One lets the freeze of volume 0 end, the other lets the later
freeze of volume 1 open a record on a key that head 0 writes. No rule orders the two passes, so the REVOKE notice to head
0 leaves before its VOL-FREEZE answer. -/
theorem test_passes_notice_before_reply :
    let s : State := { w.openTag 0 4 with
      grants := [⟨0, 3, #v[none, none, some .write, none]⟩, ⟨1, 2, #v[some .write, none, some .read, none]⟩]
      revs := [⟨0, 3, .reclaim, [2], 40, .reclaim⟩, ⟨1, 2, .reclaim, [2], 40, .reclaim⟩]
      passes := [⟨0, 0, .freeze ⟨0, 4, false, false⟩, [3], 0, none⟩, ⟨1, 1, .freeze ⟨1, 5, false, false⟩, [2], 0, none⟩] }
    (after (.linkLoss 2) s).sent = [.notice 0 ⟨.revoke, 5, 1, 2, 0, 0⟩, .reply 0 4 .ok (.words [])] := by
  decide +kernel

theorem test_revokeExpiry_fences :
    let t := after (.revokeExpiry 0 1) wAlloc
    (t.head 0).link = .fenced ∧ t.now = 40 := by decide

theorem test_jobStep_opens_record :
    let t := after .jobStep (wTrim 0 w.grants)
    t.jobWait = .revocation 0 0 ∧ t.sent = [.notice 0 ⟨.revoke, 3, 0, 0, 0, 0⟩] := by decide

theorem test_jobStep_unmaps :
    let t := after .jobStep (wTrim 0 [])
    t.entry 0 0 = .unmapped ∧ t.tenant 0 = ⟨100, 1, 0, 1⟩ ∧ t.sent = [.order 0 0 0 (.zero 0)] := by decide

theorem test_cloneCopyStep_shares :
    let t := after .cloneCopyStep wClone
    t.entry 1 1 = .mapped 0 1 ∧ (t.shelf 0).refs 1 = 2 ∧ t.tenant 0 = ⟨100, 4, 0, 2⟩ ∧ t.jobs = [] := by decide

theorem test_jobStep_ends_delete :
    let t := after .jobStep ((wDelete 0).updHead 1 fun r => { r with masks := ⟨false, false, false, false⟩ })
    t.jobs = [] ∧ t.grants = [] ∧ t.volumes = [] ∧ t.families = [] ∧ t.tenant 0 = ⟨100, 0, 0, 0⟩ ∧
      t.sent = [.notice 1 ⟨.job, 1, 4, 0, 2, 0⟩] := by decide

theorem test_powerOn_begins_verification :
    ((after (.powerOn 1) w).shelf 0).inFlight.map InFlight.order = [.labelRead 15] := by decide +kernel

/-! ### For each obligation with hypotheses, a state and operands that meet them, at the ends of its ranges -/

theorem witness_QueueStepsOneCommand :
    ({ w with pending := [.jobStep, .linkUp 3] } : State).pending = .jobStep :: [.linkUp 3] ∧
      State.reset.pending = [] := by decide

theorem witness_FramesTakenByCheckTagAndLink :
    ((w.head 0).link ≠ .dark ∧ frameBad [] = true ∧ frameBad (List.replicate 17 0#8) = true ∧
      frameBad (withCrc (16#8 :: List.replicate 13 0#8)) = true ∧ frameBad (List.replicate 16 0#8) = true) ∧
    ((Instr.holdPin 1 15).wellFormed = true ∧ requestTag (.holdPin 1 15) = some 15 ∧
      ((w.openTag 1 15).head 1).link ≠ .dark ∧ 15 ∈ ((w.openTag 1 15).head 1).tags) ∧
    (w.reachable 0 0 ∧ wFenced.reachable 1 15 ∧ knownKind 0 = false ∧ knownKind 255 = false) ∧
    ((Instr.holdPin 1 0).isRequest = true ∧ servedFenced (.holdPin 1 0) = false ∧ requestTag (.holdPin 1 0) = some 0 ∧
      (wFenced.head 1).link = .fenced ∧ (0 : Tag) ∉ (wFenced.head 1).tags) ∧
    (requestTag (.holdPin 3 0) = some 0 ∧ (w.head 3).link = .dark) := by decide +kernel

theorem witness_LinkEntersUp : (w.head 3).link = .dark ∧ w.reachable 0 0 ∧ wFenced.reachable 1 15 := by decide

theorem witness_LinkLossStripsHead : (w.head 0).link ≠ .dark ∧ (wFenced.head 1).link ≠ .dark := by decide

theorem witness_ReadsReportPartVolumeAndShelf :
    (w.reachable 0 0 ∧ wFenced.reachable 1 15) ∧ (w.ready 0 0 ∧ (volW .source).ready 2 15) ∧
      (w.ready 1 0 ∧ 7 < 8 ∧ 0 = (0 : ShelfNo).val ∧ 7 = (7 : ShelfNo).val) := by decide

theorem witness_NoticeAndFaultRecordsServed : w.reachable 2 0 ∧ wFenced.reachable 1 15 := by decide

theorem witness_VolMakeWritesRecord :
    let ok (v tn size : Nat) (mask : BitVec 8) : Prop := v ≤ 1023 ∧ tn ≤ 255 ∧ 1 ≤ size ∧ size ≤ 1048576 ∧ mask ≠ 0
    let free (f : Nat) : Prop := f < 1024 ∧ w.family f = 0
    w.ready 1 0 ∧ ¬ok 1024 0 1 1 ∧ ¬ok 0 256 1 1 ∧ ¬ok 0 0 0 1 ∧ ¬ok 0 0 1048577 1 ∧ ¬ok 0 0 1 0 ∧ ok 1023 255 1 1 ∧
      ok 0 0 1048576 128 ∧ (w.volume 0).state ≠ .free ∧ (w.volume 1023).state = .free ∧ (wHeld 1 w).ready 1 0 ∧
      (∃ x ∈ (wHeld 1 w).held, ∃ p, x.req = .volClone 6 p) ∧ w.held = [] ∧ free 1 ∧ ∀ g, g < 1 → ¬free g := by
  refine ⟨by decide, by decide, by decide, by decide, by decide, by decide, by decide, by decide, by decide, by decide,
    by decide, ⟨⟨2, 0, .volClone 6 7, .cowRoom, 0⟩, by decide, 7, rfl⟩, by decide, by decide, by decide⟩

theorem witness_VolumeSettingsServed :
    w.ready 0 0 ∧ (volW .frozen).ready 1 15 ∧ (volW .building).ready 2 15 := by decide

theorem witness_HoldFlagsAndPin :
    w.ready 0 0 ∧ w.pin = false ∧ ({ w with pin := true } : State).ready 1 15 ∧
      ({ w with pin := true } : State).pin = true ∧
      (∀ links, Instr.jobStep ≠ .powerOn links ∧ Instr.jobStep ≠ .resetLine links) ∧
      exec .jobStep { w with pin := true } = .next { w with pin := true } :=
  ⟨by decide, rfl, by decide, rfl, by intros; simp, rfl⟩

theorem witness_VolTrimQueuesJob :
    w.ready 0 0 ∧ (wJobs 5).jobs.length ≤ 5 ∧ (wJobs 5).nextJob < 256 ∧ w.jobs.length ≤ 5 ∧ w.nextJob < 256 := by decide

theorem witness_VolDropQueuesDelete :
    let pre (s : State) (v : Nat) : Prop := ∀ x ∈ s.held, ∀ y ∈ s.held, x.req.volume = v → y.req.volume ≠ v →
      ∀ k ∈ x.req.keys, y.reason ≠ .key k.1 k.2
    let s : State := { w with held := [⟨2, 1, .readMap 0 0 8, .key 0 0, 0⟩, ⟨2, 2, .volFreeze 5, .passRoom, 1⟩] }
    (w.ready 0 0 ∧ pre w 0) ∧ ((wHeld 32 w).ready 1 15 ∧ pre (wHeld 32 w) 6) ∧ s.ready 1 0 ∧ pre s 0 := by decide

theorem witness_VolFreezeAnsweredOrHeld :
    (w.ready 1 0 ∧ 1023 < 1024) ∧
    ((volW .frozen).ready 1 0 ∧ ¬(((volW .frozen).volume 0).state = .active ∧ (volW .frozen).passes.length < 4)) ∧
    ((wPasses w).ready 1 15 ∧ ¬(((wPasses w).volume 0).state = .active ∧ (wPasses w).passes.length < 4)) ∧
    (let s : State := { w with grants := [] };
      s.ready 1 0 ∧ (s.volume 0).state = .active ∧ s.passes.length < 4 ∧ s.numbered ∧ s.writeKeys 0 = [] ∧
        s.cowOn 0 = false ∧ s.jobWait ≠ .endWait ∧ ∀ x ∈ s.held, x.reason ≠ .passRoom) := by
  unfold State.numbered; decide

theorem witness_VolFreezeWaitsForWriters :
    let pre (s : State) : Prop := s.ready 1 0 ∧ (s.volume 0).state = .active ∧ s.passes.length < 4 ∧ s.numbered
    let nodup (s : State) : Prop := (s.grants.map fun g => (g.vol, g.ext)).Nodup ∧ s.writeKeys 0 ≠ []
    let ready (s : State) : List Nat := (s.writeKeys 0).filter fun e => s.revAt 0 e = none
    (pre w ∧ nodup w ∧ w.writersOf 0 0 ≠ [] ∧ ready w = [0] ∧ 64 - w.revs.length = 64) ∧
    (pre wNoRecord ∧ nodup wNoRecord ∧ ready wNoRecord = [0] ∧ 64 - wNoRecord.revs.length = 0) ∧
    (pre wOneRecord ∧ nodup wOneRecord ∧ ready wOneRecord = [0, 1] ∧ 64 - wOneRecord.revs.length = 1) ∧
    (pre (wCow true 1) ∧ (wCow true 1).writeKeys 0 = [] ∧ (wCow true 1).cowOn 0 = true) := by
  unfold State.numbered
  refine ⟨⟨?_, ?_, ?_⟩, ⟨?_, ?_, ?_⟩, ⟨?_, ?_, ?_⟩, ?_, ?_⟩ <;> decide +kernel

theorem witness_VolCloneChecksInOrder :
    let pre (s : State) : Prop :=
      s.ready 1 0 ∧ (s.volume 1).state = .free ∧ s.setAside 1 none = false ∧ (s.volume 0).state = .active ∧
        s.jobNames 0 = false ∧ s.family (s.volume 0).family < 64 ∧ (s.volume 0).pageCount ≤ s.poolFree - s.reserved ∧
        (s.tenant 0).charged + (s.tenant 0).promised + (s.volume 0).allocated ≤ (s.tenant 0).limit ∧ s.jobs.length < 5
    pre w ∧ (pre (wPasses w) ∧ 4 ≤ (wPasses w).passes.length ∧ (wPasses w).held.length < 32) ∧
      (pre (wPasses (wHeld 31 w)) ∧ (wPasses (wHeld 31 w)).held.length < 32) ∧
      (pre (wPasses (wHeld 32 w)) ∧ 32 ≤ (wPasses (wHeld 32 w)).held.length) ∧ (w.volume 0).state ≠ .free := by decide

theorem witness_VolCloneAccepted :
    let pre (s : State) (v : Nat) : Prop :=
      s.ready 1 0 ∧ (s.volume v).state = .free ∧ s.setAside v none = false ∧ (s.volume 0).state = .active ∧
        s.jobNames 0 = false ∧ s.family (s.volume 0).family < 64 ∧ (s.volume 0).pageCount ≤ s.poolFree - s.reserved ∧
        (s.tenant 0).charged + (s.tenant 0).promised + (s.volume 0).allocated ≤ (s.tenant 0).limit ∧
        s.jobs.length < 5 ∧ s.passes.length < 4 ∧ s.numbered ∧ (s.grants.map fun g => (g.vol, g.ext)).Nodup
    let ends (s : State) : Prop := s.writeKeys 0 = [] ∧ s.cowOn 0 = false ∧ s.jobWait ≠ .endWait ∧
      ∀ x ∈ s.held, x.reason ≠ .passRoom
    let free : State := { wHeld 3 w with grants := [] }
    let tight : State := { w with grants := [], tenants := [(0, ⟨4, 2, 0, 1⟩)] }
    (pre free 1 ∧ ends free) ∧ (pre tight 1 ∧ ends tight ∧
      (tight.tenant 0).charged + (tight.tenant 0).promised + (tight.volume 0).allocated = (tight.tenant 0).limit) ∧
    (pre (wHeld 3 w) 1 ∧ (wHeld 3 w).writeKeys 0 ≠ []) ∧ (pre wNoRecord 1 ∧ wNoRecord.writeKeys 0 ≠ []) ∧
    (pre wOneRecord 1 ∧ wOneRecord.writeKeys 0 ≠ []) ∧ (pre (wCow true 1) 2 ∧ (wCow true 1).cowOn 0 = true) := by
  unfold State.numbered
  refine ⟨⟨?_, ?_⟩, ⟨?_, ?_, ?_⟩, ⟨?_, ?_⟩, ⟨?_, ?_⟩, ⟨?_, ?_⟩, ?_, ?_⟩ <;> decide +kernel

theorem witness_TenantLimitAndHeadroom :
    w.ready 0 0 ∧ (∀ h g limit, Instr.jobStep ≠ .tenantSet h g 0 limit) ∧ exec .jobStep w = .next w ∧
      (w.tenant 0).charged + (w.tenant 0).promised ≤ (w.tenant 0).limit ∧
      (⟨2, 1, 1, 1⟩ : Tenant).charged + (⟨2, 1, 1, 1⟩ : Tenant).promised ≤ (⟨2, 1, 1, 1⟩ : Tenant).limit :=
  ⟨by decide, by intros; simp, rfl, by decide, by decide⟩

theorem witness_RangeSplitsIntoSegments :
    (1 ≤ 1 ∧ 1 ≤ 1024 ∧ ¬min 1 (1024 - 1023 % 1024) < 1 ∧ 1023 + 1 ≤ 1 * 1024) ∧
      (1 ≤ 1024 ∧ 1024 ≤ 1024 ∧ min 1024 (1024 - 1023 % 1024) < 1024 ∧ 1023 + 1024 ≤ 2 * 1024) := by decide

theorem witness_ReadMapAnswersOrHolds : w.ready 0 0 ∧ (volW .source).ready 2 15 := by decide

theorem witness_WriteMapChecksInOrder :
    (volW .frozen).ready 1 0 ∧ ((volW .frozen).volume 0).state = .frozen ∧ w.ready 1 15 ∧ (w.volume 0).state = .active ∧
      (w.volume 0).size * 1024 < 300 * 1024 + 1 ∧ (1023 ≤ 1023 ∧ 1 ≤ 1 ∧ 1024 ≤ 1024) ∧
      (1023 < 1024 ∨ 0 = 0 ∨ 1024 < 1025) := by decide

theorem witness_WriteMapUnsharedGrantsWrite :
    w.ready 1 0 ∧ (w.volume 0).state = .active ∧ 512 + 1024 ≤ (w.volume 0).size * 1024 ∧
      (∀ g ∈ segments 512 1024, w.trimming 0 g.ext = false ∧ w.blocked 1 0 g.ext none = false ∧
        ∃ k c, w.entry 0 g.ext = .mapped k c ∧ (w.shelf k).refs c ≤ 1) ∧
      w.grants.length + ((segments 512 1024).countP fun g => (w.grantAt 0 g.ext).isNone) ≤ 16384 := by
  refine ⟨by decide, by decide, by decide, ?_, by decide⟩
  intro g hg
  have h : g = ⟨0, 512, 512⟩ ∨ g = ⟨1, 0, 512⟩ := by simpa [segments] using hg
  rcases h with rfl | rfl
  · exact ⟨by decide, by decide, 0, 0, by decide, by decide⟩
  · exact ⟨by decide, by decide, 0, 1, by decide, by decide⟩

theorem witness_WriteMapFreshAllocates :
    let pre (s : State) : Prop :=
      s.ready 1 0 ∧ 2048 % 1024 + 1024 ≤ 1024 ∧ (s.volume 0).state = .active ∧ 2048 + 1024 ≤ (s.volume 0).size * 1024 ∧
        s.trimming 0 2 = false ∧ s.blocked 1 0 2 none = false ∧ s.entry 0 2 = .unmapped ∧
        (s.volume 0).allocated + 1 ≤ (s.volume 0).quota ∧
        (s.tenant 0).charged + (s.tenant 0).promised + 1 ≤ (s.tenant 0).limit ∧ (s.volume 0).slotPresent 2 = true ∧
        s.pickShelf (s.volume 0).mask (s.volume 0).cursor [] true = some 0 ∧
        (s.othersOf 0 2 1 ≠ [] → s.revs.length + 1 ≤ 64) ∧
        s.grants.length + (if (s.grantAt 0 2).isNone then 1 else 0) ≤ 16384
    let told : State :=
      { w with tenants := [(0, ⟨3, 2, 0, 1⟩)], volumes := [(0, { volA with quota := 3, mark := 100 })] }
    (pre w ∧ w.othersOf 0 2 1 = []) ∧ (pre wNoRecord ∧ wNoRecord.othersOf 0 2 1 = []) ∧
      (pre told ∧ (told.tenant 0).charged + (told.tenant 0).promised + 1 = (told.tenant 0).limit ∧
        (told.volume 0).quota * (told.volume 0).mark ≤ ((told.volume 0).allocated + 1) * 100 ∧
        (told.volume 0).crossed = false) ∧
      (pre { w with grants := [⟨0, 2, #v[none, none, some .read, none]⟩] } ∧
        ({ w with grants := [⟨0, 2, #v[none, none, some .read, none]⟩] } : State).othersOf 0 2 1 ≠ []) := by
  refine ⟨⟨?_, ?_⟩, ⟨?_, ?_⟩, ⟨?_, ?_, ?_⟩, ?_, ?_⟩ <;> decide

theorem witness_WriteMapSharedStartsCow :
    wShared.ready 1 0 ∧ 1024 % 1024 + 1024 ≤ 1024 ∧ (wShared.volume 0).state = .active ∧
      1024 + 1024 ≤ (wShared.volume 0).size * 1024 ∧ wShared.trimming 0 1 = false ∧
      wShared.blocked 1 0 1 none = false ∧ wShared.entry 0 1 = .mapped 0 1 ∧ 1 < (wShared.shelf 0).refs 1 ∧
      (wShared.shelf 0).state = .online ∧
      wShared.pickShelf (wShared.volume 0).mask (wShared.volume 0).cursor [] false = some 0 ∧
      wShared.cows.length + 1 ≤ 128 ∧ (wShared.othersOf 0 1 1 ≠ [] → wShared.revs.length + 1 ≤ 64) ∧
      wShared.grants.length + (if (wShared.grantAt 0 1).isNone then 1 else 0) ≤ 16384 ∧
      (wShared.shelf 0).orders.length + 1 ≤ 64 ∧ ∀ x ∈ wShared.held, x.reason ≠ .orderRoom 0 := by decide

theorem witness_WriteMapTwoSegmentsCommit :
    let pre (s : State) (lba n : Nat) : Prop :=
      let xs := [lba / 1024, lba / 1024 + 1]
      let opening := xs.countP fun x => s.segKind 0 x ≠ .unshared ∧ s.othersOf 0 x 1 ≠ []
      s.ready 1 0 ∧ n ≤ 1024 ∧ 1024 < lba % 1024 + n ∧ (s.volume 0).state = .active ∧
        lba + n ≤ (s.volume 0).size * 1024 ∧ (∀ x ∈ xs, s.trimming 0 x = false ∧ s.blocked 1 0 x none = false) ∧
        (opening ≠ 0 → s.revs.length + opening ≤ 64) ∧
        s.grants.length + (xs.countP fun x => (s.grantAt 0 x).isNone) ≤ 16384 ∧
        (s.volume 0).allocated + 2 ≤ (s.volume 0).quota ∧
        (s.tenant 0).charged + (s.tenant 0).promised + 2 ≤ (s.tenant 0).limit ∧ s.cows.length + 2 ≤ 128 ∧
        (s.shelf 0).orders.length + 2 ≤ 64 ∧ ∀ z ∈ s.held, z.reason ≠ .orderRoom 0
    let picked (s : State) (kinds : List Bool) (ks : List ShelfNo) : Prop :=
      s.pickAll (s.volume 0).mask (s.volume 0).cursor [] kinds = some (ks, 1)
    let shared (s : State) (x c : Nat) : Prop :=
      s.entry 0 x = .mapped 0 c ∧ 1 < (s.shelf 0).refs c ∧ (s.shelf 0).state = .online
    let unshared (s : State) (x : Nat) (k : ShelfNo) (c : Nat) : Prop :=
      s.entry 0 x = .mapped k c ∧ (s.shelf k).refs c ≤ 1
    let offline := w.setEntry 0 1 (.mapped 1 0)
    let last := w.updVolume 0 fun r => { r with dir := [(0, ⟨7, [(3, .mapped 0 1)]⟩)] }
    let first := w.updShelf 0 fun sh => sh.setSlot 0 .inUse 2
    (pre w (2 * 1024 + 1023) 2 ∧ picked w [true, true] [0, 0] ∧ w.entry 0 2 = .unmapped ∧ w.entry 0 3 = .unmapped ∧
      w.othersOf 0 2 1 = [] ∧ w.othersOf 0 3 1 = []) ∧
    (pre wOther (2 * 1024 + 1) 1024 ∧ picked wOther [true, true] [0, 0] ∧ wOther.othersOf 0 3 1 ≠ []) ∧
    (pre wShared (1024 + 1) 1024 ∧ picked wShared [true, false] [0, 0] ∧ shared wShared 1 1 ∧
      wShared.entry 0 2 = .unmapped) ∧
    (pre wMoved (2 * 1024 + 1) 1024 ∧ picked wMoved [true, false] [0, 0] ∧ wMoved.entry 0 2 = .unmapped ∧
      shared wMoved 3 1) ∧
    (pre wBoth 1 1024 ∧ picked wBoth [false, false] [0, 0] ∧ shared wBoth 0 0 ∧ shared wBoth 1 1) ∧
    (pre w (1024 + 1) 1024 ∧ picked w [true] [0] ∧ w.entry 0 2 = .unmapped ∧ unshared w 1 0 1) ∧
    (pre offline (1024 + 1) 1024 ∧ picked offline [true] [0] ∧ offline.entry 0 2 = .unmapped ∧
      unshared offline 1 1 0 ∧ (offline.shelf 1).state ≠ .online) ∧
    (pre last (2 * 1024 + 1) 1024 ∧ picked last [true] [0] ∧ last.entry 0 2 = .unmapped ∧ unshared last 3 0 1) ∧
    (pre wShared 1 1024 ∧ picked wShared [false] [0] ∧ shared wShared 1 1 ∧ unshared wShared 0 0 0) ∧
    (pre first 1023 2 ∧ picked first [false] [0] ∧ shared first 0 0 ∧ unshared first 1 0 1) := by
  refine ⟨⟨?_, ?_, ?_⟩, ⟨?_, ?_, ?_⟩, ⟨?_, ?_, ?_⟩, ⟨?_, ?_, ?_⟩, ⟨?_, ?_, ?_⟩, ⟨?_, ?_, ?_⟩, ⟨?_, ?_, ?_⟩, ⟨?_, ?_, ?_⟩,
    ⟨?_, ?_, ?_⟩, ?_, ?_, ?_⟩ <;> decide +kernel

theorem witness_GrantGivenBackOrStale :
    w.ready 0 0 ∧ (1023 < 1024 ∨ 1048575 < 0) ∧ (1023 ≤ 1023 ∧ 1048575 ≤ 1048575) ∧
      (∀ r ∈ w.revs, r.vol = 0 → r.ext = 0 → (0 : Head) ∉ r.awaited) ∧ (∀ x ∈ w.held, x.reason ≠ .grantRoom) ∧
      (wAlloc.ready 0 15 ∧ wAlloc.revAt 0 1 = some ⟨0, 1, .alloc, [0], 40, .reply 6⟩) ∧
      (let s : State := { wAlloc with revs := [⟨0, 1, .alloc, [0, 2], 40, .reply 6⟩] };
        s.ready 0 0 ∧ s.revAt 0 1 = some ⟨0, 1, .alloc, [0, 2], 40, .reply 6⟩ ∧
          ([0, 2] : List Head).filter (fun k => k ≠ 0) ≠ [] ∧ ∀ x ∈ s.held, x.reason ≠ .grantRoom) ∧
      wAlloc.ready 2 15 ∧ ∀ r ∈ wAlloc.revs, r.vol = 0 → r.ext = 1 → (2 : Head) ∉ r.awaited := by
  refine ⟨?_, ?_, ?_, ?_, ?_, ?_, ?_, ?_, ?_⟩ <;> decide

theorem witness_RevokeAckClosesAllocation :
    ∀ fenced detached : Bool,
      let s : State := { wMarked fenced detached with
        revs := (wMarked fenced detached).revs ++ wNoRecord.revs.take 2
        replies := (wMarked fenced detached).replies ++ [⟨5, ⟨2, 3, false, false⟩, 9, [], 1, false⟩] }
      s.ready 0 0 ∧ s.quiet ∧ s.jobs = [] ∧ (0 : Head) ≠ 1 ∧ s.revAt 0 1 = some ⟨0, 1, .alloc, [0], 40, .reply 6⟩ ∧
        s.replyRec 6 = some ⟨6, ⟨1, 4, fenced, detached⟩, 0, [⟨.fresh, 1, 0, 8, true⟩], 1, false⟩ ∧
        s.entry 0 1 = .mapped 0 1 ∧ (s.shelf 0).state = .online := by decide

theorem witness_RevocationRecordsOpen :
    (w.reclaim = false ∧ ¬16384 - w.grants.length < 256) ∧
      (wGrants 16129).reclaim = false ∧ 16384 - (wGrants 16129).grants.length < 256 ∧
      ((wGrants 16129).grants.map fun g => (g.vol, g.ext)).Nodup ∧
      ∀ g ∈ (wGrants 16129).grants, ∃ k : Head, g.holders[k] ≠ none := by
  refine ⟨by decide, rfl, ?_, ?_, ?_⟩
  · have h : (wGrants 16129).grants.length = 16129 := by rw [wGrants, List.length_map, List.length_range]
    omega
  · simp only [wGrants, List.map_map]
    exact List.nodup_range.map fun a b hab => by simpa using hab
  · intro g hg
    simp only [wGrants, List.mem_map] at hg
    obtain ⟨i, -, rfl⟩ := hg
    exact ⟨0, by simp⟩

theorem witness_ReleasedRequestsReexamined :
    let pre (s : State) : Prop :=
      s.ready 0 0 ∧ s.passes = [] ∧ s.jobs = [] ∧ s.revAt 0 1 = some ⟨0, 1, .reclaim, [0], 40, .reclaim⟩ ∧
        (s.volume 0).state = .active ∧ s.entry 0 1 = .mapped 0 1
    let unreleased (y : Held) : Prop := y.reason ≠ .key 0 1 ∧ y.reason ≠ .revokeRoom ∧ y.reason ≠ .grantRoom
    let last : Held := ⟨1, 7, .volFreeze 5, .passRoom, 3⟩
    (∀ b : Head,
      let s := wReclaim [⟨1, 4, .readMap 0 1024 1024, .key 0 1, 0⟩, ⟨b, 5, .readMap 0 2047 1, .key 0 1, 2⟩, last]
      pre s ∧ unreleased last ∧ (2047 / 1024 = 1 ∧ 1 ≤ 1 ∧ 2047 % 1024 + 1 ≤ 1024 ∧ 1024 % 1024 + 1024 ≤ 1024) ∧
        s.grants.length < 16384) ∧
    (let s := wReclaim [⟨2, 6, .volFreeze 5, .passRoom, 0⟩, ⟨1, 4, .readMap 0 2047 2, .key 0 1, 1⟩];
      pre { s with revs := s.revs ++ [⟨0, 2, .alloc, [0], 40, .orphan⟩] } ∧ 2047 / 1024 = 1 ∧ 1024 < 2047 % 1024 + 2 ∧
        ({ s with revs := s.revs ++ [⟨0, 2, .alloc, [0], 40, .orphan⟩] } : State).revAt 0 2 ≠ none) := by decide

theorem witness_WaitersAnsweredByMarks :
    (∀ fenced detached : Bool, let s := wFreezing fenced detached
      s.ready 0 0 ∧ s.held = [] ∧ s.revAt 0 0 = some ⟨0, 0, .downgrade, [0], 40, .pass 3⟩ ∧ s.jobs = [] ∧
        s.passes = [⟨3, 0, .freeze ⟨1, 4, fenced, detached⟩, [], 1, none⟩] ∧ s.cowOn 0 = false ∧
        ∀ g ∈ s.grants, g.vol = 0 → g.ext = 0 → ∀ k : Head, k ≠ 0 → g.holders[k] ≠ some .write) ∧
    (∀ c ∈ [0, 1], let s := wPausing c
      s.ready 0 0 ∧ s.held = [] ∧ s.passes = [] ∧ s.revAt 0 c = some ⟨0, c, .trim, [0], 40, .job⟩ ∧
        s.jobs = [⟨4, .trim 0 0 2, c, 2, .running, 0⟩] ∧ c < 2 ∧ s.entry 0 c = .mapped 0 c ∧
        ∀ g ∈ s.grants, g.vol = 0 → g.ext = c → ∀ i : Head, i ≠ 0 → g.holders[i] = none) ∧
    ((after (.revokeAck 0 0 0 0) (wPausing 0)).volume 0).nextPresent 1 2 < 2 ∧
      2 ≤ ((after (.revokeAck 0 0 0 1) (wPausing 1)).volume 0).nextPresent 2 2 := by
  refine ⟨by decide, by decide, by decide, by decide⟩

theorem witness_ShelfJoinWritesLabel :
    w.ready 1 0 ∧ 7 < 8 ∧ (7 = (7 : ShelfNo).val) ∧ ¬(16 ≤ 15 ∧ 15 ≤ 65536) ∧ ¬(16 ≤ 65537 ∧ 65537 ≤ 65536) ∧
      (16 ≤ 16 ∧ 16 ≤ 65536 ∧ 65536 ≤ 65536) ∧ (w.shelf 0).state ≠ .absent ∧
      ((w.shelf 7).state = .absent ∧ (w.shelf 7).linkUp = false) ∧
      (let s := w.updShelf 7 fun sh => { sh with linkUp := true };
        s.ready 1 0 ∧ (s.shelf 7).state = .absent ∧ (s.shelf 7).linkUp = true ∧ (s.shelf 7).orders = [] ∧
          (s.shelf 7).inFlight = [] ∧ ∀ x ∈ s.held, x.reason ≠ .orderRoom 7) := by decide

theorem witness_ShelfTuneWritesSettings :
    w.ready 1 0 ∧ 7 < 8 ∧ (0 = (0 : ShelfNo).val) ∧ (w.shelf 7).state = .absent ∧
      ((shelfW (flight (.labelWrite 15 5) .joining)).shelf 0).state = .joining ∧ (w.shelf 0).state ≠ .absent ∧
      (w.shelf 0).state ≠ .joining ∧ 2 ≤ (w.shelf 0).level ∧ (w.shelf 0).level < 3 ∧ (w.shelf 0).orders = [] ∧
      (w.shelf 0).scrubQueue = [] := by decide

theorem witness_ShelfPartDiscardsTable : w.ready 1 0 ∧ 7 < 8 ∧ (7 = (7 : ShelfNo).val) := by decide

theorem witness_ShelfLinkActsByState :
    ((w.shelf 0).state = .online ∧ w.jobs = [] ∧ (shelfW (flight (.zero 5) .online)).jobs = []) ∧
    ((w.shelf 7).linkUp = false ∧ (w.shelf 7).state ≠ .offline ∧ (w.shelf 7).state ≠ .mismatch) ∧
      (let s := shelfW fun sh => { sh with state := .offline, linkUp := false, stepTimer := none };
        (s.shelf 0).linkUp = false ∧ (s.shelf 0).state = .offline ∧ (s.shelf 0).orders = [] ∧
          (s.shelf 0).inFlight = [] ∧ ∀ x ∈ s.held, x.reason ≠ .orderRoom 0) := by decide

theorem witness_UnmatchedAnswerChangesNothing :
    let s := shelfW (flight (.zero 5) .online)
    (∀ f ∈ (s.shelf 0).inFlight, f.tag ≠ 3 ∨ f.serial ≠ 8) ∧ ∀ f ∈ (s.shelf 0).inFlight, f.tag ≠ 2 ∨ f.serial ≠ 9 := by
  decide

theorem witness_ZeroAnswersSettleSlot :
    let s := shelfW (flight (.zero 5) .online)
    (s.shelf 0).matched 3 9 = some ⟨3, 9, .zero 5, 1000⟩ ∧ (s.shelf 0).orders = [] ∧ (s.shelf 0).scrubQueue = [] := by
  decide

theorem witness_LabelReadEndsVerification :
    let s := shelfW (flight (.labelRead 15) .verifying)
    (s.shelf 0).matched 3 9 = some ⟨3, 9, .labelRead 15, 1000⟩ ∧ (s.shelf 0).orders = [] ∧
      (s.shelf 0).scrubQueue = [] := by decide

theorem witness_LabelWriteEndsJoin :
    let s (pz fenced detached : Bool) := shelfW fun sh =>
      { flight (.labelWrite 15 5) .joining sh with join := some ⟨⟨1, 4, fenced, detached⟩, pz⟩ }
    ∀ pz fenced detached, ((s pz fenced detached).shelf 0).matched 3 9 = some ⟨3, 9, .labelWrite 15 5, 1000⟩ ∧
      ((s pz fenced detached).shelf 0).orders = [] ∧
      ((s pz fenced detached).shelf 0).inFlight = [⟨3, 9, .labelWrite 15 5, 1000⟩] ∧
      ((s pz fenced detached).shelf 0).linkUp = true ∧
      ((s pz fenced detached).shelf 0).join = some ⟨⟨1, 4, fenced, detached⟩, pz⟩ ∧
      ∀ x ∈ (s pz fenced detached).held, x.reason ≠ .orderRoom 0 := by decide

theorem witness_CopyDoneCompletesCow :
    let c (copied clear : Bool) : Cow := ⟨0, 1, 0, 1, 0, 2, copied, clear, 1, 1, 4, 6, 0⟩
    let copying (s : State) (clear : Bool) : Prop :=
      (s.shelf 0).matched 3 9 = some ⟨3, 9, .copy 0 1 2 0, 1000⟩ ∧ s.cow 0 = some (c false clear)
    let last (s : State) (fenced detached : Bool) : Prop :=
      s.entry 0 1 = .pending 0 1 0 ∧ (s.head 1).link = .up ∧ s.grants.length < 16384 ∧ (s.shelf 0).state = .online ∧
        s.replyRec 6 = some ⟨6, ⟨1, 4, fenced, detached⟩, 0, [⟨.shared, 1, 0, 8, false⟩], 1, false⟩
    let awaits (s : State) (copied : Bool) : Prop :=
      s.ready 2 0 ∧ s.quiet ∧ s.jobs = [] ∧ s.cow 0 = some (c copied false) ∧
        s.revAt 0 1 = some ⟨0, 1, .cow, [2], 40, .cow 0⟩
    (copying (wCow false 1) false ∧ ((wCow false 1).shelf 0).orders = [] ∧ ((wCow false 1).shelf 0).scrubQueue = []) ∧
    (∀ fenced detached : Bool, let s := wCowMarked true 1 fenced detached
      copying s true ∧ s.quiet ∧ s.jobs = [] ∧ s.revAt 0 1 = none ∧ last s fenced detached) ∧
    awaits (wCow false 1) false ∧
    ∀ fenced detached : Bool,
      let s : State := { (wCowMarked false 1 fenced detached).updShelf 0 (fun sh => { sh with inFlight := [] }) with
        cows := [(0, c true false)] }
      awaits s true ∧ (2 : Head) ≠ 1 ∧ last s fenced detached ∧ (s.grants.map fun g => (g.vol, g.ext)).Nodup := by
  refine ⟨?_, ?_, ?_, ?_⟩ <;> decide

theorem witness_CopyFaultRetriesOrGivesUp :
    let pre (s : State) (c : Cow) : Prop :=
      (s.shelf 0).matched 3 9 = some ⟨3, 9, .copy 0 1 2 0, 1000⟩ ∧ s.cow 0 = some c ∧ s.quiet ∧ s.jobs = [] ∧
        (s.head c.head).link ≠ .dark ∧ s.entry c.vol c.ext = .pending c.oldShelf c.oldSlot 0
    (∃ c, pre (wCow false 1) c ∧ c.attempt = 1 ∧ (wCow false 1).retryShelf c = some 0) ∧
      ∀ fenced detached : Bool, ∃ c, pre (wCowMarked true 2 fenced detached) c ∧ c.attempt ≠ 1 ∧
        (wCowMarked true 2 fenced detached).replyRec c.reply =
          some ⟨c.reply, ⟨c.head, c.tag, fenced, detached⟩, c.vol, [⟨.shared, 1, 0, 8, false⟩], 1, false⟩ :=
  ⟨⟨⟨0, 1, 0, 1, 0, 2, false, false, 1, 1, 4, 6, 0⟩, by decide⟩,
    fun fenced detached => ⟨⟨0, 1, 0, 1, 0, 2, false, true, 2, 1, 4, 6, 0⟩, by revert fenced detached; decide⟩⟩

theorem witness_OrderTimeoutCounts :
    let s (n : Nat) (o : Order) (st : ShelfState) := shelfW fun sh => { flight o st sh with timeouts := n }
    let on (s : State) (o : Order) : Prop := (s.shelf 0).underTag 3 = some ⟨3, 9, o, 1000⟩
    on (s 1 (.zero 5) .online) (.zero 5) ∧ ((s 1 (.zero 5) .online).shelf 0).timeouts < 2 ∧
      on (s 2 (.zero 5) .online) (.zero 5) ∧ 2 ≤ ((s 2 (.zero 5) .online).shelf 0).timeouts ∧
      on (s 3 (.labelRead 15) .verifying) (.labelRead 15) ∧ on (s 0 (.labelWrite 15 5) .joining) (.labelWrite 15 5) := by
  decide

theorem witness_ShelfTimersExpire :
    (let s := shelfW fun sh => { sh with state := .offline, reverify := some 5000, stepTimer := none };
      (s.shelf 0).reverify = some 5000 ∧ (s.shelf 0).state = .offline ∧ (s.shelf 0).linkUp = true ∧
        (s.shelf 0).orders = [] ∧ (s.shelf 0).inFlight = [] ∧ ∀ x ∈ s.held, x.reason ≠ .orderRoom 0) ∧
    ((shelfW fun sh => { sh with settle := some 250, freeList := [2] }).shelf 0).settle = some 250 ∧
    (w.shelf 0).stepTimer = some 250 ∧ (w.shelf 0).state = .online := by decide

theorem witness_RevokeExpiryFencesAwaited :
    wAlloc.revAt 0 1 = some ⟨0, 1, .alloc, [0], 40, .reply 6⟩ ∧ (0 : Head) ∈ ([0] : List Head) := by decide

theorem witness_JobStepWaitsOrUnmaps :
    let pre (s : State) (c : Nat) : Prop :=
      s.jobs = [⟨4, .trim 0 0 2, c, 2, .running, 0⟩] ∧ s.jobWait = .none ∧ s.pause = none ∧ c < 2 ∧
        (s.volume 0).slotPresent c = true
    (let s := (wTrim 0 []).setEntry 0 0 .unmapped;
      pre s 0 ∧ s.entry 0 0 = .unmapped ∧ (s.volume 0).nextPresent 1 2 < 2) ∧
    (let s := (wTrim 1 []).setEntry 0 1 (.pending 0 1 0);
      pre s 1 ∧ s.entry 0 1 = .pending 0 1 0) ∧
    (let s : State := { wTrim 1 [] with revs := wAlloc.revs };
      pre s 1 ∧ s.entry 0 1 = .mapped 0 1 ∧ s.revAt 0 1 = some ⟨0, 1, .alloc, [0], 40, .reply 6⟩) ∧
    (let s := wTrim 0 w.grants;
      pre s 0 ∧ s.entry 0 0 = .mapped 0 0 ∧ s.revAt 0 0 = none ∧
        s.grantAt 0 0 = some ⟨0, 0, #v[some .write, none, none, none]⟩ ∧ s.revs.length < 64) ∧
    (let s : State :=
        { wTrim 0 w.grants with revs := (List.range 64).map fun i => ⟨9, i, .trim, [2], 40, .orphan⟩ };
      pre s 0 ∧ s.revAt 0 0 = none ∧ (s.grantAt 0 0).isSome = true ∧ 64 ≤ s.revs.length) ∧
    (let s := wTrim 1 [];
      pre s 1 ∧ s.entry 0 1 = .mapped 0 1 ∧ s.revAt 0 1 = none ∧ s.grantAt 0 1 = none ∧ s.held = [] ∧
        2 ≤ ((after .jobStep s).volume 0).nextPresent 2 2) ∧
    (let s := wTrim 0 [];
      pre s 0 ∧ s.entry 0 0 = .mapped 0 0 ∧ s.revAt 0 0 = none ∧ s.grantAt 0 0 = none ∧ s.held = [] ∧
        ((after .jobStep s).volume 0).nextPresent 1 2 < 2) ∧
    (let s := (wTrim 1 []).setEntry 0 1 .unmapped;
      pre s 1 ∧ s.entry 0 1 = .unmapped ∧ 2 ≤ (s.volume 0).nextPresent 2 2) ∧
    (let s := wDelete 300;
      s.jobs = [⟨4, .delete 0, 300, 300, .running, 2⟩] ∧ s.jobWait = .none ∧ s.pause = none ∧
        300 ≤ (s.volume 0).nextPresent 300 300 ∧ (∀ x ∈ s.revs, x.vol ≠ 0) ∧ (∀ p ∈ s.passes, p.vol ≠ 0) ∧
        ∀ x ∈ s.held, x.reason ≠ .grantRoom) ∧
    (let s : State := { wDelete 0 with revs := [⟨0, 3, .reclaim, [2], 40, .reclaim⟩] };
      300 ≤ (s.volume 0).nextPresent 0 300 ∧ ¬∀ x ∈ s.revs, x.vol ≠ 0) ∧ 0 ≤ 300 ∧ 300 ≤ 300 := by
  refine ⟨?_, ?_, ?_, ?_, ?_, ?_, ?_, ?_, ?_, ?_, ?_⟩ <;> decide

theorem witness_CloneStepCopiesPage :
    let p : Page := ⟨7, [(0, .mapped 0 0), (1, .mapped 0 1)]⟩
    let two : State := wClone.updVolume 0 fun r => { r with dir := [(0, p), (1, ⟨6, [(0, .mapped 0 2)]⟩)] }
    (wClone.jobs = [⟨4, .clone 1 0, 0, 0, .running, 0⟩] ∧ wClone.clonePass 4 = false ∧ wClone.pause = none) ∧
    ((wClone.volume 0).nextSlot 0 = some (0, p) ∧ (wClone.volume 0).nextSlot 256 = none) ∧
    (two.jobs = wClone.jobs ∧ two.clonePass 4 = false ∧ two.pause = none ∧ (two.volume 0).nextSlot 0 = some (0, p) ∧
      (two.volume 0).nextSlot 256 ≠ none) ∧
    ({ wClone with jobs := [⟨4, .clone 1 0, 256, 0, .running, 2⟩] } : State).clonePass 4 = false ∧
    ∀ q ∈ p.entries, ∃ k c, q.2 = .mapped k c := by
  refine ⟨by decide, by decide, by decide, by decide, ?_⟩
  intro q hq
  have h : q = (0, .mapped 0 0) ∨ q = (1, .mapped 0 1) := by simpa using hq
  rcases h with rfl | rfl
  · exact ⟨0, 0, rfl⟩
  · exact ⟨0, 1, rfl⟩

theorem witness_JobRequestsActOnHead : w.ready 0 0 ∧ wClone.ready 1 15 := by decide

theorem witness_RestartEmptiesVolatileState :
    (wClone.jobs.flatMap fun j => j.work.volumes).Nodup ∧ ⟨4, .clone 1 0, 0, 0, .running, 0⟩ ∈ wClone.jobs ∧
      (∀ j ∈ w.jobs, ∀ c p, j.work = .clone c p → 0 ≠ c ∧ 0 ≠ p) ∧ (w.shelf 0).state ≠ .joining ∧
      ((shelfW (flight (.labelWrite 15 5) .joining)).shelf 0).state = .joining := by
  refine ⟨by decide, by decide, ?_, by decide, by decide⟩
  intro j hj
  simp [show w.jobs = [] from rfl] at hj

theorem witness_NoticeJudgedForEachHead : ∀ c ∈ [NoticeClass.shelf, .job, .volume, .part], c ≠ .revoke ∧ c ≠ .fence := by
  decide

theorem witness_DispatchFollowsTable :
    let sh : Shelf := { shelfA with orders := [.zero 4] }
    sh.linkUp = true ∧ sh.state = .online ∧ (∀ t', t' < 0 → ∃ f ∈ sh.inFlight, f.tag = t') ∧
      (∀ f ∈ sh.inFlight, f.tag ≠ 0) ∧ sh.orders.filter Order.isZero = [.zero 4] := by decide

theorem witness_ScrubEngineQueuesZeros :
    let s := shelfW fun sh => { flight (.zero 5) .online sh with scrubQueue := [6] }
    (s.shelf 0).inFlight = [⟨3, 9, .zero 5, 1000⟩] ∧ (s.shelf 0).orders = [] ∧ (s.shelf 0).scrubQueue = [6] ∧
      (s.shelf 0).state = .online ∧ (s.shelf 0).linkUp = true ∧ ∀ x ∈ s.held, x.reason ≠ .orderRoom 0 := by decide

theorem witness_PickPrefersNormalInScanOrder :
    w.pickShelf 0xff#8 0 [] true = some 0 ∧ w.pickShelf 0x02#8 0 [] true = none ∧
      w.pickShelf 0xff#8 1 (List.replicate 12 0) false = some 0 ∧ w.pickShelf 0xff#8 1 (List.replicate 12 0) true = none ∧
      w.pickAll 0xff#8 0 [] [true, false] = some ([0, 0], 1) := by decide

theorem witness_LinkStateChangesByFewCommands :
    exec (.linkUp 3) w = .next (after (.linkUp 3) w) ∧ ((after (.linkUp 3) w).head 3).link ≠ (w.head 3).link :=
  ⟨rfl, by decide⟩

theorem witness_FramesDecodeToCommands :
    (Instr.shelfJoin 3 15 255 65536 4294967295 65535 65535 15 true).wellFormed = true ∧
      (encodeFrame (.shelfJoin 3 15 255 65536 4294967295 65535 65535 15 true)).isSome = true ∧
      (Instr.volMake 0 0 65535 255 4294967295 16777215 255 255).wellFormed = true ∧
      (encodeFrame (.volMake 0 0 65535 255 4294967295 16777215 255 255)).isSome = true := by decide

theorem witness_StepKeepsShelvesInBounds : w.shelvesInBounds ∧ step w = .next { w with now := 1 } :=
  ⟨by unfold State.shelvesInBounds; decide, rfl⟩

theorem witness_StepKeepsTablesCanonical : w.tablesCanonical ∧ step w = .next { w with now := 1 } :=
  ⟨by unfold State.tablesCanonical; decide, rfl⟩

theorem witness_StepKeepsRoomAndNumbers :
    (wPasses (wHeld 32 (wJobs 5))).inRoom ∧ (wPasses (wHeld 32 (wJobs 5))).numbered ∧ w.inRoom ∧ w.numbered ∧
      step w = .next { w with now := 1 } := by
  unfold State.inRoom State.numbered
  exact ⟨by decide, by decide, by decide, by decide, rfl⟩

theorem witness_StepKeepsGrantsLawful : wAlloc.grantsLawful ∧ step wAlloc = .next { wAlloc with now := 1 } :=
  ⟨by unfold State.grantsLawful; decide, rfl⟩

theorem witness_StepKeepsOrdersLawful : w.ordersLawful ∧ step w = .next { w with now := 1 } := by
  refine ⟨fun k => ?_, rfl⟩
  by_cases hk : k = 0
  · subst hk
    refine ⟨by decide, by decide, by decide, ?_⟩
    show ∀ o ∈ (w.shelf 0).allOrders, _
    intro o ho
    exact absurd (show o ∈ ([] : List Order) from ho) (by simp)
  · have h : w.shelf k = Shelf.initial := by revert k; decide
    unfold Shelf.ordersLawful
    rw [h]
    exact ⟨by decide, by decide, by decide, rfl⟩

/-! The laws of a state whose tables are not empty. -/

theorem w_volume (v : Nat) : w.volume v = if v = 0 then volA else Volume.freeRecord := by
  rcases v with _ | v <;> simp [State.volume, w, Table.get, Table.find?]

theorem w_tenant (n : Nat) : w.tenant n = if n = 0 then ⟨100, 2, 0, 1⟩ else Tenant.initial := by
  rcases n with _ | n <;> simp [State.tenant, w, Table.get, Table.find?]

theorem w_entry_not_pending (v e : Nat) (k : ShelfNo) (c n : Nat) : w.entry v e ≠ .pending k c n := by
  rw [State.entry, w_volume]
  split
  · unfold Volume.entry
    split
    · simp
    · next p hp =>
      have : p = ⟨7, [(0, .mapped 0 0), (1, .mapped 0 1)]⟩ := by
        simp only [volA, Table.find?] at hp
        split at hp <;> simp_all
      subst this
      simp only [Table.get, Table.find?]
      split <;> [skip; split] <;> simp
  · simp [Volume.entry, Volume.freeRecord, Table.find?]

theorem w_sound : w.sound := by
  refine ⟨by unfold State.tablesCanonical; decide, by unfold State.inRoom; decide, by unfold State.numbered; decide,
    witness_StepKeepsOrdersLawful.1, by simp [State.headJob, show w.jobs = [] from rfl], by decide, by decide, by decide,
    ?_, by decide, by decide, ?_, ?_⟩ <;>
    intro x hx <;> simp [show w.jobs = [] from rfl, show w.passes = [] from rfl, show w.held = [] from rfl] at hx

theorem w_countsLawful : w.countsLawful := by
  refine ⟨by decide, fun n => ?_, fun n => ?_, by decide, by decide, by decide, by decide, by decide⟩
  · rcases n with _ | n <;> simp [State.family, w, Table.get, Table.find?, volA, Volume.freeRecord, Config.familyMax]
  · rw [w_tenant]
    simp only [show w.jobs = [] from rfl, show w.volumes = [(0, volA)] from rfl]
    rcases n with _ | n <;> simp [volA, Volume.freeRecord, Tenant.initial]

theorem w_petLawful (k : ShelfNo) : w.petLawful k := by
  by_cases hk : k = 0
  · subst hk
    refine ⟨show _ ∧ _ by decide, by decide, by decide, by decide, fun c => ?_⟩
    rcases Nat.lt_or_ge c 16 with hc | hc
    · revert c; decide
    · have hp : (w.shelf 0).pet[c]? = none := by simpa using (show (w.shelf 0).pet.length ≤ c from hc)
      have hn : w.naming 0 c = 0 := by
        simp [State.naming, w, volA, Volume.freeRecord, Volume.entries, MapEntry.extent, Config.pageEntries]
        omega
      have hf : c ∉ (w.shelf 0).freeList := by
        intro h
        have : c ∈ (List.range 13).map (· + 2) := h
        simp at this
        omega
      have hl : (w.shelf 0).pet.length = 16 := by decide
      simp [Shelf.refs, hp, hn, hf, hl, show (w.shelf 0).scrubQueue = [] from rfl,
        show (w.shelf 0).allOrders = [] from rfl, show w.cows = [] from rfl]
      omega
  · have h : w.shelf k = Shelf.initial := by revert k; decide
    have hn (c : Nat) : w.naming k c = 0 := by
      have : (0 : ShelfNo) ≠ k := fun h => hk h.symm
      simp [State.naming, w, volA, Volume.freeRecord, Volume.entries, MapEntry.extent, this]
    unfold State.petLawful
    simp [h, hn, Shelf.initial, Shelf.refs, Shelf.countState, Shelf.allOrders, show w.cows = [] from rfl]

theorem w_extentsLawful : w.extentsLawful := by
  refine ⟨w_petLawful, by decide, ?_, fun v e k c n h => absurd h (w_entry_not_pending v e k c n), ?_⟩
  · intro n c h
    simp [State.cow, show w.cows = [] from rfl, Table.find?] at h
  · intro k a b d n h
    have he : ∀ j, (w.shelf j).allOrders = [] := by decide
    simp [he k] at h

theorem witness_StepKeepsExtentsLawful :
    w.sound ∧ w.countsLawful ∧ w.extentsLawful ∧ step w = .next { w with now := 1 } :=
  ⟨w_sound, w_countsLawful, w_extentsLawful, rfl⟩

theorem witness_StepKeepsCountsLawful :
    w.sound ∧ w.countsLawful ∧ w.extentsLawful ∧ step w = .next { w with now := 1 } :=
  witness_StepKeepsExtentsLawful

end Sys2Proof.Tests
end

section
/-! PROOFS. The shelf requests: the shelf a number names, the order of the checks, and SHELF-PART (R29). -/

namespace Sys2Proof.Machine

variable {s : State} {h : Head} {t : Tag}

/-! ### A shelf number of a request -/

theorem shelfOf_val (k : ShelfNo) : shelfOf k.val = some k := by
  simp [shelfOf]

theorem shelfOf_out_of_range {n : Nat} (hn : 7 < n) : shelfOf n = none := by
  simp [shelfOf, show ¬ n < 8 by omega]

theorem State.onShelf_val (k : ShelfNo) (serve : ShelfNo → State) : s.onShelf h t k.val serve = serve k := by
  simp [State.onShelf, shelfOf_val]

theorem State.onShelf_out_of_range {n : Nat} (serve : ShelfNo → State) (hn : 7 < n) :
    s.onShelf h t n serve = s.refuse h t .badParam := by
  simp [State.onShelf, shelfOf_out_of_range hn]

/-! ### The order of checks, check by check (R134) -/

@[simp] theorem State.judge_nil (serve : State) : s.judge h t [] serve = serve := rfl

theorem State.judge_failIf (b : Bool) (st : Status) (more : List (Option Status)) (serve : State) :
    s.judge h t (failIf b st :: more) serve =
      if b = true then s.refuse h t st else s.judge h t more serve := by
  cases b <;> rfl

/-! ### The answer in the event that takes the request (R169) -/

theorem State.refuse_openTag_eq_refused (st : Status) : (s.openTag h t).refuse h t st = s.refused h t st :=
  State.refuse_openTag st

theorem State.replyWords_setShelf_openTag (k : ShelfNo) (x : Shelf) (ws : List Nat) :
    ((s.openTag h t).setShelf k x).replyWords h t ws = (s.setShelf k x).replied h t .ok ws :=
  State.reply_of_openTag .ok (.words ws) rfl

/-! ### SHELF-PART (R29) -/

/-- SHELF-PART once it is taken: its tag is outstanding, and the checks read the shelf as it stood. -/
theorem exec_shelfPart (n : Nat) (hr : s.ready h t) :
    exec (.shelfPart h t n) s = .next ((s.openTag h t).onShelf h t n fun k =>
      (s.openTag h t).judge h t
        [failIf ((s.shelf k).state = .absent) .noShelf, failIf (s.shelf k).busy .shelfBusy]
        (((s.openTag h t).setShelf k { (s.shelf k).absentValues with timeouts := 0 }).replyWords h t [])) := by
  obtain ⟨hup, hfree⟩ := hr
  exact congrArg _ (State.take_up false _ hup hfree)

/-- The causes of SHELF-BUSY (R29): a join, an order in flight or waiting, a slot IN-USE or COPY-TARGET. -/
theorem Shelf.busy_iff (sh : Shelf) :
    sh.busy = true ↔ sh.state = .joining ∨ sh.inFlight ≠ [] ∨ sh.orders ≠ [] ∨
      (sh.pet.any fun p => p.state = .inUse ∨ p.state = .copyTarget) = true := by
  simp [Shelf.busy, or_assoc]

/-- SHELF-PART on a shelf number in range: NO-SHELF before SHELF-BUSY, else the discarded record. -/
theorem exec_shelfPart_val (k : ShelfNo) (hr : s.ready h t) :
    exec (.shelfPart h t k.val) s = .next (
      if (s.shelf k).state = .absent then s.refused h t .noShelf
      else if (s.shelf k).busy = true then s.refused h t .shelfBusy
      else (s.setShelf k { (s.shelf k).absentValues with timeouts := 0 }).replied h t .ok []) := by
  simp only [exec_shelfPart _ hr, State.onShelf_val, State.judge_failIf, State.judge_nil,
    State.refuse_openTag_eq_refused, State.replyWords_setShelf_openTag, decide_eq_true_eq]

/-- The ABSENT values (R20) do not touch the order list and the orders in flight: on a shelf that SHELF-PART does not
find busy both are empty already (R29). -/
theorem Shelf.absentValues_of_not_busy {sh : Shelf} (hb : ¬ sh.busy = true) :
    sh.absentValues =
      { state := .absent, capacity := 0, label := 0, lowMark := 0, reserve := 0, baseLevel := 0, cond := .normal,
        retired := 0, pet := [], freeList := [], scrubQueue := [], linkUp := sh.linkUp, timeouts := sh.timeouts,
        reverify := none, settle := none, stepTimer := none, level := 0, orders := [], inFlight := [],
        serial := sh.serial, fgCount := 0, join := none } := by
  obtain ⟨-, hflight, horders, -⟩ : sh.state ≠ .joining ∧ sh.inFlight = [] ∧ sh.orders = [] ∧ _ := by
    simpa only [Shelf.busy_iff, not_or, ne_eq, not_not] using hb
  simp only [Shelf.absentValues, hflight, horders]

/-- Settles O32, by the checks of R29 in order: the model discards the record through `Shelf.absentValues`, which is the
statement's record once the shelf has passed the check for SHELF-BUSY. -/
theorem shelfPartDiscardsTable : Obligations.ShelfPartDiscardsTable := by
  intro h t n s hr
  refine ⟨fun hn => ?_, fun k hk => ?_⟩
  · rw [exec_shelfPart n hr, State.onShelf_out_of_range _ hn, State.refuse_openTag_eq_refused]
  · subst hk
    simp only [exec_shelfPart_val k hr, ← Shelf.busy_iff]
    by_cases hb : (s.shelf k).busy = true
    · simp only [hb, if_true]
    · simp only [hb, Shelf.absentValues_of_not_busy hb]

end Sys2Proof.Machine
end

section
/-! PROOFS. The limits of the tenants (R49, R52, R53): no command but TENANT-SET changes one. The limits are part of
what the settling of an event and the shared operations below it keep (`State.kept`, Laws/Kept); here follow the
operations that keep less than that, and then every command. -/

namespace Sys2Proof.Machine

/-- The limit of a tenant (R49). -/
def State.limitOf (s : State) (n : Nat) : Nat := (s.tenant n).limit

variable {s u : State} {h : Head} {t : Tag} {n : Nat}

/-! ### Where the limits are read off -/

theorem State.limitOf_of_tenants (ht : u.tenants = s.tenants) : u.limitOf n = s.limitOf n := by
  simp only [State.limitOf, State.tenant, ht]

theorem State.limitOf_of_kept (hk : u.kept = s.kept) : u.limitOf n = s.limitOf n := by
  simp only [State.kept, Prod.mk.injEq] at hk
  obtain ⟨-, -, -, -, -, -, hlimits⟩ := hk
  exact congrFun hlimits n

theorem State.limitOf_foldl {α : Type} (f : State → α → State) (hf : ∀ s x, (f s x).limitOf n = s.limitOf n)
    (l : List α) (s : State) : (l.foldl f s).limitOf n = s.limitOf n := by
  induction l generalizing s with
  | nil => rfl
  | cons x l ih => rw [List.foldl_cons, ih, hf]

theorem Ev.limitOf_apart {α : Type} (f : Ev → α → Ev) (hf : ∀ ev x, (f ev x).st.limitOf n = ev.st.limitOf n)
    (l : List α) (ev : Ev) : (Ev.apart f l ev).st.limitOf n = ev.st.limitOf n := by
  induction l generalizing ev with
  | nil => rfl
  | cons x l ih => exact (ih (f ev x)).trans (hf ev x)

section Updates

variable (s : State) (ev : Ev)

/-! ### The named updates, the answers and the notices -/

theorem State.limitOf_updTenant (m : Nat) (f : Tenant → Tenant) (hf : ∀ x, (f x).limit = x.limit) :
    (s.updTenant m f).limitOf n = s.limitOf n :=
  State.limitOf_of_kept (s.kept_updTenant m f hf)

@[simp] theorem State.limitOf_updHead (h : Head) (f : HeadRec → HeadRec) :
    (s.updHead h f).limitOf n = s.limitOf n := rfl
@[simp] theorem State.limitOf_setShelf (k : ShelfNo) (x : Shelf) : (s.setShelf k x).limitOf n = s.limitOf n := rfl
@[simp] theorem State.limitOf_updShelf (k : ShelfNo) (f : Shelf → Shelf) :
    (s.updShelf k f).limitOf n = s.limitOf n := rfl
@[simp] theorem State.limitOf_emit (x : Sent) : (s.emit x).limitOf n = s.limitOf n := rfl
@[simp] theorem State.limitOf_openTag (h : Head) (t : Tag) : (s.openTag h t).limitOf n = s.limitOf n := rfl
@[simp] theorem State.limitOf_refuse (h : Head) (t : Tag) (st : Status) :
    (s.refuse h t st).limitOf n = s.limitOf n := rfl
@[simp] theorem State.limitOf_replyWords (h : Head) (t : Tag) (ws : List Nat) :
    (s.replyWords h t ws).limitOf n = s.limitOf n := rfl
@[simp] theorem State.limitOf_reach (d : Nat) : (s.reach d).limitOf n = s.limitOf n := rfl

@[simp] theorem State.limitOf_answer (w : Waiter) (st : Status) (b : ReplyBody) :
    (s.answer w st b).limitOf n = s.limitOf n :=
  State.limitOf_of_kept (s.kept_answer w st b)
@[simp] theorem State.limitOf_shelfNotice (k : ShelfNo) (d : Nat) : (s.shelfNotice k d).limitOf n = s.limitOf n :=
  State.limitOf_of_kept (s.kept_shelfNotice k d)
@[simp] theorem State.limitOf_evalCond (k : ShelfNo) : (s.evalCond k).limitOf n = s.limitOf n :=
  State.limitOf_of_kept (s.kept_evalCond k)
@[simp] theorem State.limitOf_setHeadJob (j : Job) : (s.setHeadJob j).limitOf n = s.limitOf n :=
  State.limitOf_of_kept (s.kept_setHeadJob j)

@[simp] theorem State.limitOf_notify (h : Head) (x : Notice) : (s.notify h x).limitOf n = s.limitOf n := by
  unfold State.notify
  split
  · rfl
  · split
    · rfl
    · rfl
    · split <;> rfl

end Updates

/-! ### A request: its taking, its checks, its shelf (R169, R134) -/

theorem State.limitOf_take {served : Bool} {serve : State → State} (hs : ∀ s, (serve s).limitOf n = s.limitOf n) :
    (s.take h t served serve).limitOf n = s.limitOf n := by
  unfold State.take
  split
  · rfl
  · split <;> simp [hs]
  · split
    · rfl
    · split <;> simp [hs]

theorem State.limitOf_judge {checks : List (Option Status)} (hu : u.limitOf n = s.limitOf n) :
    (s.judge h t checks u).limitOf n = s.limitOf n := by
  unfold State.judge
  split
  · rfl
  · exact hu

theorem State.limitOf_onShelf {k : Nat} {serve : ShelfNo → State} (hs : ∀ k, (serve k).limitOf n = s.limitOf n) :
    (s.onShelf h t k serve).limitOf n = s.limitOf n := by
  unfold State.onShelf
  split
  · rfl
  · exact hs _

theorem State.limitOf_ite {p : Prop} [Decidable p] {v : State} (hu : u.limitOf n = s.limitOf n)
    (hv : v.limitOf n = s.limitOf n) : (if p then u else v).limitOf n = s.limitOf n := by
  split
  · exact hu
  · exact hv

section Operations

variable (s : State) (ev : Ev)

/-! ### Work inside an event -/

@[simp] theorem Ev.limitOf_finish : ev.finish.limitOf n = ev.st.limitOf n :=
  State.limitOf_of_kept ev.kept_finish
@[simp] theorem Ev.limitOf_leaveHeldIf (p : Held → Bool) (st : Option Status) :
    (ev.leaveHeldIf p st).st.limitOf n = ev.st.limitOf n :=
  State.limitOf_of_kept (ev.kept_leaveHeldIf p st)
@[simp] theorem Ev.limitOf_stripHead (h : Head) : (ev.stripHead h).st.limitOf n = ev.st.limitOf n :=
  State.limitOf_of_kept (ev.kept_stripHead h)
@[simp] theorem State.limitOf_markFenced (h : Head) : (s.markFenced h).limitOf n = s.limitOf n :=
  State.limitOf_of_kept (s.kept_markFenced h)
@[simp] theorem State.limitOf_markDetached (h : Head) : (s.markDetached h).limitOf n = s.limitOf n :=
  State.limitOf_of_kept (s.kept_markDetached h)
@[simp] theorem Ev.limitOf_cowFailed (c : Nat) (cause : CopyFail) :
    (ev.cowFailed c cause).st.limitOf n = ev.st.limitOf n :=
  State.limitOf_of_kept (ev.kept_cowFailed c cause)

/-! ### Head links (R165, R167, R92) -/

theorem State.limitOf_linkUp (h : Head) : (s.linkUp h).limitOf n = s.limitOf n := by
  unfold State.linkUp
  split <;> simp

theorem Ev.limitOf_loseHead (h : Head) : (ev.loseHead h).st.limitOf n = ev.st.limitOf n := by
  simp [Ev.loseHead]

theorem State.limitOf_linkLoss (h : Head) : (s.linkLoss h).limitOf n = s.limitOf n := by
  unfold State.linkLoss
  split
  · rfl
  · rw [Ev.limitOf_finish, Ev.limitOf_loseHead, Ev.st_start]

theorem State.limitOf_discardFrame (h : Head) (bytes : List Byte) :
    (s.discardFrame h bytes).limitOf n = s.limitOf n := by
  unfold State.discardFrame
  split <;> rfl

theorem Ev.limitOf_fenceHead (v e : Nat) (h : Head) : (ev.fenceHead v e h).st.limitOf n = ev.st.limitOf n := by
  simp [Ev.fenceHead]

theorem Ev.limitOf_revokeExpiry (r : Rev) : (ev.revokeExpiry r).st.limitOf n = ev.st.limitOf n :=
  Ev.limitOf_apart _ (fun ev h => ev.limitOf_fenceHead r.vol r.ext h) _ ev

theorem State.limitOf_sendPending (h : Head) (c : NoticeClass) : (s.sendPending h c).limitOf n = s.limitOf n := by
  unfold State.sendPending
  split <;> rfl

theorem State.limitOf_noteMask (h : Head) (t : Tag) (m : BitVec 16) : (s.noteMask h t m).limitOf n = s.limitOf n := by
  unfold State.noteMask
  dsimp only
  rw [State.limitOf_replyWords, State.limitOf_foldl _ fun s c => s.limitOf_sendPending h c, State.limitOf_updHead]

/-! ### Shelves: their links, their loss, and the requests (R21 to R30) -/

@[simp] theorem Ev.st_listEmptied (k : ShelfNo) (sh : Shelf) : (ev.listEmptied k sh).st = ev.st := by
  unfold Ev.listEmptied
  split <;> rfl

theorem Ev.limitOf_loseShelf (k : ShelfNo) (late : Option Order) :
    (ev.loseShelf k late).st.limitOf n = ev.st.limitOf n := by
  unfold Ev.loseShelf
  dsimp only
  rw [Ev.st_map, State.limitOf_shelfNotice, Ev.limitOf_apart _ fun ev c => ev.limitOf_cowFailed c .link]
  split <;> simp

@[simp] theorem Ev.limitOf_failJoin (k : ShelfNo) (st : Status) :
    (ev.failJoin k st).st.limitOf n = ev.st.limitOf n := by
  unfold Ev.failJoin
  dsimp only
  split <;> simp

@[simp] theorem Ev.limitOf_toOffline (k : ShelfNo) : (ev.toOffline k).st.limitOf n = ev.st.limitOf n := by
  simp [Ev.toOffline]

theorem Ev.limitOf_shelfLinkDown (k : ShelfNo) : (ev.shelfLinkDown k).st.limitOf n = ev.st.limitOf n := by
  unfold Ev.shelfLinkDown
  dsimp only
  split
  case h_6 => rw [Ev.limitOf_loseShelf, Ev.st_map, State.limitOf_updShelf]
  all_goals simp

theorem Ev.limitOf_shelfLinkUp (k : ShelfNo) : (ev.shelfLinkUp k).st.limitOf n = ev.st.limitOf n := by
  unfold Ev.shelfLinkUp
  dsimp only
  split <;> simp

theorem State.limitOf_tuneShelf (h : Head) (t : Tag) (k : ShelfNo) (x : Settings) :
    (s.tuneShelf h t k x).limitOf n = s.limitOf n := by
  unfold State.tuneShelf
  dsimp only
  split <;> simp

/-! ### The answers of a shelf (R119) and the timeout of an order (R122) -/

@[simp] theorem Ev.limitOf_joinDone (k : ShelfNo) : (ev.joinDone k).st.limitOf n = ev.st.limitOf n := by
  unfold Ev.joinDone
  dsimp only
  split <;> simp

/-- What the owner of an order does on its answer keeps the limits (R119). -/
def OwnerKeepsLimits (owner : Order → Option (Ev → Ev)) : Prop :=
  ∀ o act, owner o = some act → ∀ (ev : Ev) (n : Nat), (act ev).st.limitOf n = ev.st.limitOf n

theorem State.limitOf_answerTo (k : ShelfNo) (otag serial : Nat) {owner : Order → Option (Ev → Ev)}
    (ho : OwnerKeepsLimits owner) : (s.answerTo k otag serial owner).limitOf n = s.limitOf n := by
  unfold State.answerTo
  split
  · rfl
  · split
    · rfl
    · next act hact => simp [ho _ act hact]

theorem zeroDoneAct_keepsLimits (k : ShelfNo) : OwnerKeepsLimits (zeroDoneAct k) := by
  rintro (_ | _ | _ | _) _ ⟨⟩ ev n
  simp

theorem zeroFaultAct_keepsLimits (k : ShelfNo) : OwnerKeepsLimits (zeroFaultAct k) := by
  rintro (_ | _ | _ | _) _ ⟨⟩ ev n
  simp

theorem copyDoneAct_keepsLimits : OwnerKeepsLimits copyDoneAct := by
  rintro (_ | ⟨_, _, _, c⟩ | _ | _) _ ⟨⟩ ev n
  exact State.limitOf_of_kept (ev.kept_cowCopied c)

theorem copyFaultAct_keepsLimits (k : ShelfNo) (cause : FaultCause) : OwnerKeepsLimits (copyFaultAct k cause) := by
  cases cause <;>
  · rintro (_ | _ | _ | _) _ ⟨⟩ ev n
    simp

theorem labelReadDoneAct_keepsLimits (k : ShelfNo) (label : Nat) : OwnerKeepsLimits (labelReadDoneAct k label) := by
  rintro (_ | _ | _ | _) _ ⟨⟩ ev n
  rw [Ev.st_map]
  split <;> simp

theorem labelReadFaultAct_keepsLimits (k : ShelfNo) : OwnerKeepsLimits (labelReadFaultAct k) := by
  rintro (_ | _ | _ | _) act hact ev n
  case labelRead =>
    obtain rfl : (fun ev : Ev => ev.toOffline k) = act := Option.some.inj hact
    exact ev.limitOf_toOffline k
  all_goals cases hact

theorem labelWriteDoneAct_keepsLimits (k : ShelfNo) : OwnerKeepsLimits (labelWriteDoneAct k) := by
  rintro (_ | _ | _ | _) _ ⟨⟩ ev n
  simp

theorem labelWriteFaultAct_keepsLimits (k : ShelfNo) : OwnerKeepsLimits (labelWriteFaultAct k) := by
  rintro (_ | _ | _ | _) _ ⟨⟩ ev n
  simp

theorem Ev.limitOf_timedOut (k : ShelfNo) (o : Order) : (ev.timedOut k o).st.limitOf n = ev.st.limitOf n := by
  cases o <;> simp [Ev.timedOut]

theorem Ev.limitOf_orderTimeout (k : ShelfNo) (f : InFlight) :
    (ev.orderTimeout k f).st.limitOf n = ev.st.limitOf n := by
  unfold Ev.orderTimeout
  dsimp only
  split
  · simp [Ev.limitOf_loseShelf]
  · simp [Ev.limitOf_timedOut]

/-! ### A start of the part (R13, R164) -/

/-- The conversion of a CLONE job takes back what was promised to the clone, and no limit (R164 step 3). -/
theorem State.limitOf_convertClone (v parent : Nat) : (s.convertClone v parent).limitOf n = s.limitOf n :=
  calc (s.convertClone v parent).limitOf n
    _ = (s.updTenant (s.volume v).tenant fun x =>
          { x with promised := x.promised - ((s.volume parent).allocated - (s.volume v).allocated) }).limitOf n :=
        State.limitOf_of_tenants (by simp [State.convertClone, State.updTenant, State.tenant])
    _ = s.limitOf n := s.limitOf_updTenant _ _ fun _ => rfl

theorem State.limitOf_convertClones : s.convertClones.limitOf n = s.limitOf n := by
  refine State.limitOf_foldl _ (fun s j => ?_) s.jobs s
  split
  · exact s.limitOf_convertClone _ _
  all_goals rfl

theorem State.limitOf_recover (links : BitVec 8) : (s.recover links).limitOf n = s.limitOf n :=
  State.limitOf_convertClones _

theorem State.limitOf_restart (cause : StartCause) (links : BitVec 8) :
    (s.restart cause links).limitOf n = s.limitOf n := by
  unfold State.restart
  rw [Ev.limitOf_finish, Ev.st_foldl _ Ev.st_runShelf, Ev.st_start, State.limitOf_recover]
  rfl

/-! ### Copy steps and job requests (R158 to R161) -/

theorem State.limitOf_addRef (e : MapEntry) : (s.addRef e).limitOf n = s.limitOf n := by
  cases e <;> rfl

theorem State.limitOf_copyPage (j : Job) (v slot : Nat) (p : Page) :
    (s.copyPage j v slot p).limitOf n = s.limitOf n := by
  unfold State.copyPage
  dsimp only
  rw [State.limitOf_of_kept (State.kept_markTest _ _), State.limitOf_setHeadJob, State.limitOf_updTenant,
    State.limitOf_foldl _ fun s (q : Nat × MapEntry) => s.limitOf_addRef q.2]
  · rfl
  · exact fun _ => rfl

theorem State.limitOf_cloneEnd (j : Job) (v parent : Nat) : (s.cloneEnd j v parent).limitOf n = s.limitOf n :=
  State.limitOf_of_kept (by simp [State.cloneEnd])

theorem State.limitOf_cloneTest (v parent : Nat) : (s.cloneTest v parent).limitOf n = s.limitOf n := by
  unfold State.cloneTest
  split
  · rfl
  · split
    · exact State.limitOf_cloneEnd _ _ _ _
    · rfl

theorem State.limitOf_cloneStep (j : Job) (v parent : Nat) : (s.cloneStep j v parent).limitOf n = s.limitOf n := by
  unfold State.cloneStep
  split
  · exact State.limitOf_cloneEnd _ _ _ _
  · rw [State.limitOf_cloneTest, State.limitOf_copyPage]

theorem State.limitOf_pauseHead (h : Head) (t : Tag) (j : Job) : (s.pauseHead h t j).limitOf n = s.limitOf n := by
  unfold State.pauseHead
  split
  · rfl
  · rfl
  · split
    · rfl
    · split
      · simp
      · rfl

theorem State.limitOf_resumeHead (h : Head) (t : Tag) (j : Job) : (s.resumeHead h t j).limitOf n = s.limitOf n := by
  unfold State.resumeHead
  split <;> simp

/-! ### Grants returned, and volumes made, thawed and dropped (R70, R88, R135, R140, R144) -/

theorem State.limitOf_grantDrop (h : Head) (t : Tag) (v e : Nat) : (s.grantDrop h t v e).limitOf n = s.limitOf n := by
  refine State.limitOf_of_kept ?_
  unfold State.grantDrop
  dsimp only
  split <;> simp

theorem State.limitOf_revokeAck (h : Head) (t : Tag) (v e : Nat) : (s.revokeAck h t v e).limitOf n = s.limitOf n := by
  refine State.limitOf_of_kept ?_
  unfold State.revokeAck
  split <;> simp

theorem State.limitOf_thaw (v : Nat) : (s.thaw v).limitOf n = s.limitOf n := by
  unfold State.thaw
  split <;> rfl

theorem State.limitOf_makeVolume (v tenant size quota : Nat) (mask : BitVec 8) (mark : Nat) :
    (s.makeVolume v tenant size quota mask mark).limitOf n = s.limitOf n :=
  State.limitOf_updTenant _ _ _ fun _ => rfl

theorem State.limitOf_dropVolume (v : Nat) : (s.dropVolume v).limitOf n = s.limitOf n :=
  State.limitOf_of_kept (by simp [State.dropVolume])

end Operations

/-! ### Every command -/

/-- A command leaves the limit of a tenant as it was. -/
def KeepsLimit (s : State) (n : Nat) : Host.Outcome State Fault Refusal → Prop
  | .next u => u.limitOf n = s.limitOf n
  | .fault _ | .refused _ => True

theorem execJobPause_keepsLimit (h : Head) (t : Tag) : KeepsLimit s n (execJobPause h t s) := by
  refine State.limitOf_take fun s => ?_
  split
  · rfl
  · exact s.limitOf_pauseHead h t _

theorem execJobGo_keepsLimit (h : Head) (t : Tag) : KeepsLimit s n (execJobGo h t s) := by
  refine State.limitOf_take fun s => ?_
  split
  · rfl
  · exact s.limitOf_resumeHead h t _

theorem execOrderTimeout_keepsLimit (k : ShelfNo) (otag : Nat) : KeepsLimit s n (execOrderTimeout k otag s) := by
  unfold execOrderTimeout KeepsLimit
  dsimp only
  split
  · rfl
  · simp [Ev.limitOf_orderTimeout]

theorem execReverifyExpiry_keepsLimit (k : ShelfNo) : KeepsLimit s n (execReverifyExpiry k s) := by
  unfold execReverifyExpiry KeepsLimit
  dsimp only
  split
  · rfl
  · split <;> simp

theorem execSettleExpiry_keepsLimit (k : ShelfNo) : KeepsLimit s n (execSettleExpiry k s) := by
  unfold execSettleExpiry KeepsLimit
  dsimp only
  split <;> simp

theorem execScrubStepExpiry_keepsLimit (k : ShelfNo) : KeepsLimit s n (execScrubStepExpiry k s) := by
  unfold execScrubStepExpiry KeepsLimit
  dsimp only
  split
  · rfl
  · split
    · split <;> simp
    · rfl

theorem execRevokeExpiry_keepsLimit (v e : Nat) : KeepsLimit s n (execRevokeExpiry v e s) := by
  unfold execRevokeExpiry KeepsLimit
  dsimp only
  split
  · rfl
  · simp [Ev.limitOf_revokeExpiry]

theorem execCloneCopyStep_keepsLimit : KeepsLimit s n (execCloneCopyStep s) := by
  unfold execCloneCopyStep KeepsLimit
  dsimp only
  split
  · rfl
  · split
    · exact State.limitOf_ite (s.limitOf_cloneStep _ _ _) rfl
    all_goals rfl

/-- The limit of one tenant through the TENANT-SET of another (R52). -/
theorem execTenantSet_keepsLimit {m : Nat} (limit : Nat) (hne : n ≠ m) :
    KeepsLimit s n (execTenantSet h t m limit s) :=
  State.limitOf_take fun s =>
    State.limitOf_judge ((State.limitOf_replyWords _ h t _).trans
      (congrArg Tenant.limit (s.tenant_updTenant_ne _ hne)))

/-- The frame of R52, command by command: what a command does to the limits is what its owner does, once the request
has been taken and has passed its checks. -/
theorem exec_keepsLimit (c : Instr) (hc : ∀ h g limit, c ≠ .tenantSet h g n limit) :
    KeepsLimit s n (exec c s) := by
  cases c with
  | powerOn links | resetLine links => exact s.limitOf_restart _ links
  | linkUp h => exact s.limitOf_linkUp h
  | linkLoss h => exact s.limitOf_linkLoss h
  | frameDiscard h bytes => exact s.limitOf_discardFrame h bytes
  | badKind h t kind => exact State.limitOf_ite rfl (State.limitOf_take fun _ => rfl)
  | readMap h t v lba count | writeMap h t v lba count =>
    exact State.limitOf_take fun s => State.limitOf_ite (State.limitOf_of_kept (by simp)) rfl
  | grantDrop h t v e => exact State.limitOf_take fun s => State.limitOf_ite (s.limitOf_grantDrop h t v e) rfl
  | revokeAck h t v e => exact State.limitOf_take fun s => State.limitOf_ite (s.limitOf_revokeAck h t v e) rfl
  | volMake h t v tenant size quota mask mark =>
    exact State.limitOf_take fun s => State.limitOf_judge (s.limitOf_makeVolume v tenant size quota mask mark)
  | volGrow | volQuota | volMark | volMask | volHold | volUnhold | holdAll | unholdAll | volRead | tenantRead =>
    exact State.limitOf_take fun s => State.limitOf_judge rfl
  | volFreeze | volClone | volTrim =>
    exact State.limitOf_take fun s => State.limitOf_judge (State.limitOf_of_kept (by simp))
  | volThaw h t v => exact State.limitOf_take fun s => State.limitOf_judge (s.limitOf_thaw v)
  | volDrop h t v => exact State.limitOf_take fun s => State.limitOf_judge (s.limitOf_dropVolume v)
  | holdPin | jobRead => exact State.limitOf_take fun _ => rfl
  | tenantSet h t m limit => exact execTenantSet_keepsLimit limit fun e => hc h t limit (e ▸ rfl)
  | shelfJoin =>
    exact State.limitOf_take fun s => State.limitOf_onShelf fun k => State.limitOf_judge (by simp)
  | shelfTune h t =>
    exact State.limitOf_take fun s => State.limitOf_onShelf fun k => State.limitOf_judge (s.limitOf_tuneShelf h t k _)
  | shelfPart => exact State.limitOf_take fun s => State.limitOf_onShelf fun k => State.limitOf_judge rfl
  | shelfRead => exact State.limitOf_take fun s => State.limitOf_onShelf fun _ => rfl
  | jobPause h t => exact execJobPause_keepsLimit h t
  | jobGo h t => exact execJobGo_keepsLimit h t
  | rejoin | partRead | notePeek | noteTake | faultPop => exact State.limitOf_take fun _ => rfl
  | noteMask h t m => exact State.limitOf_take fun s => s.limitOf_noteMask h t m
  | shelfLinkDown k => exact (Ev.limitOf_finish _).trans ((Ev.start s).limitOf_shelfLinkDown k)
  | shelfLinkUp k =>
    exact State.limitOf_ite rfl ((Ev.limitOf_finish _).trans ((Ev.start s).limitOf_shelfLinkUp k))
  | zeroDone k otag serial => exact s.limitOf_answerTo k otag serial (zeroDoneAct_keepsLimits k)
  | zeroFault k otag serial => exact s.limitOf_answerTo k otag serial (zeroFaultAct_keepsLimits k)
  | copyDone k otag serial => exact s.limitOf_answerTo k otag serial copyDoneAct_keepsLimits
  | copyFault k otag serial cause => exact s.limitOf_answerTo k otag serial (copyFaultAct_keepsLimits k cause)
  | labelReadDone k otag serial label =>
    exact s.limitOf_answerTo k otag serial (labelReadDoneAct_keepsLimits k label)
  | labelReadFault k otag serial => exact s.limitOf_answerTo k otag serial (labelReadFaultAct_keepsLimits k)
  | labelWriteDone k otag serial => exact s.limitOf_answerTo k otag serial (labelWriteDoneAct_keepsLimits k)
  | labelWriteFault k otag serial => exact s.limitOf_answerTo k otag serial (labelWriteFaultAct_keepsLimits k)
  | lateAnswer => rfl
  | orderTimeout k otag => exact execOrderTimeout_keepsLimit k otag
  | reverifyExpiry k => exact execReverifyExpiry_keepsLimit k
  | settleExpiry k => exact execSettleExpiry_keepsLimit k
  | scrubStepExpiry k => exact execScrubStepExpiry_keepsLimit k
  | revokeExpiry v e => exact execRevokeExpiry_keepsLimit v e
  | jobStep => exact State.limitOf_ite (State.limitOf_of_kept (by simp)) rfl
  | cloneCopyStep => exact execCloneCopyStep_keepsLimit

end Sys2Proof.Machine
end

section
/-! PROOFS. The tenant requests (R52, R53). -/

namespace Sys2Proof.Machine

variable {s : State} {h : Head} {t : Tag} {n : Nat}

/-! ### The check of the tenant number, and the clamp of R52 -/

theorem State.judge_tenantParam (serve : State) :
    s.judge h t [tenantParam n] serve = if 255 < n then s.refuse h t .badParam else serve := by
  have hn : (!decide (n < Config.tenants)) = true ↔ 255 < n := by simp; omega
  simp only [tenantParam, State.judge_failIf, State.judge_nil, hn]

theorem Tenant.appliedLimit_eq (x : Tenant) (limit : Nat) :
    x.appliedLimit limit = if limit < x.charged + x.promised then x.charged + x.promised else limit := by
  unfold Tenant.appliedLimit Tenant.sum
  split <;> omega

/-! ### The two requests once they are taken -/

theorem State.replyWords_updTenant_openTag (f : Tenant → Tenant) (ws : List Nat) :
    ((s.openTag h t).updTenant n f).replyWords h t ws = (s.updTenant n f).replied h t .ok ws :=
  State.reply_of_openTag .ok (.words ws) rfl

theorem State.replyWords_openTag (ws : List Nat) : (s.openTag h t).replyWords h t ws = s.replied h t .ok ws :=
  State.reply_of_openTag .ok (.words ws) rfl

theorem exec_tenantSet (limit : Nat) (hr : s.ready h t) :
    exec (.tenantSet h t n limit) s = .next (
      if 255 < n then s.refused h t .badParam
      else (s.updTenant n fun x => { x with limit := x.appliedLimit limit }).replied h t .ok
        [(s.tenant n).appliedLimit limit]) := by
  obtain ⟨hup, hfree⟩ := hr
  calc exec (.tenantSet h t n limit) s
    _ = .next ((s.openTag h t).judge h t [tenantParam n]
          (((s.openTag h t).updTenant n fun x => { x with limit := x.appliedLimit limit }).replyWords h t
            [(s.tenant n).appliedLimit limit])) := congrArg _ (State.take_up false _ hup hfree)
    _ = _ := by
      rw [State.judge_tenantParam, State.refuse_openTag_eq_refused, State.replyWords_updTenant_openTag]

theorem exec_tenantRead (hr : s.ready h t) :
    exec (.tenantRead h t n) s = .next (
      if 255 < n then s.refused h t .badParam else s.replied h t .ok (s.tenant n).words) := by
  obtain ⟨hup, hfree⟩ := hr
  calc exec (.tenantRead h t n) s
    _ = .next ((s.openTag h t).judge h t [tenantParam n] ((s.openTag h t).replyWords h t (s.tenant n).words)) :=
        congrArg _ (State.take_up false _ hup hfree)
    _ = _ := by rw [State.judge_tenantParam, State.refuse_openTag_eq_refused, State.replyWords_openTag]

/-- Settles O16: TENANT-SET and TENANT-READ by their equations, the frame by `exec_keepsLimit` over every command, and
the headroom by arithmetic on a record whose charged and promised do not pass its limit. -/
theorem tenantLimitAndHeadroom : Obligations.TenantLimitAndHeadroom := by
  refine ⟨fun h t n limit s hr => ?_, fun c n s u hc hu => ?_, fun h t n s hr => exec_tenantRead hr,
    fun x k hx => ?_⟩
  · dsimp only
    rw [exec_tenantSet limit hr, ← Tenant.appliedLimit_eq]
    rfl
  · have hkeeps : KeepsLimit s n (exec c s) := exec_keepsLimit c hc
    rw [hu] at hkeeps
    exact hkeeps
  · omega

end Sys2Proof.Machine
end

section
/-! PROOFS. VOL-MAKE (R135): its three checks, the family record it takes, and the record it writes. -/

namespace Sys2Proof.Machine

variable {s : State} {h : Head} {t : Tag}

/-! ### The lowest free family (R9) -/

/-- The search from `start` ends at the first number that passes the test, when one lies within its fuel. -/
theorem lowestFrom_eq_some {p : Nat → Bool} {fuel start n : Nat} (hstart : start ≤ n) (hfuel : n < start + fuel)
    (hn : p n = true) (hbelow : ∀ g, start ≤ g → g < n → p g = false) : lowestFrom p fuel start = some n := by
  induction fuel generalizing start with
  | zero => omega
  | succ fuel ih =>
    unfold lowestFrom
    rcases hstart.eq_or_lt with rfl | hlt
    · rw [if_pos hn]
    · rw [hbelow start le_rfl hlt, if_neg Bool.false_ne_true]
      exact ih hlt (by omega) fun g hg => hbelow g (by omega)

theorem State.freeFamily_eq {f : Nat} (hf : f < 1024) (hfree : s.family f = 0) (hbelow : ∀ g < f, s.family g ≠ 0) :
    s.freeFamily = f := by
  have hlow : lowestFrom (fun n => s.family n = 0) Config.families 0 = some f :=
    lowestFrom_eq_some (Nat.zero_le f) (by simpa using hf) (by simpa using hfree)
      fun g _ hg => by simpa using hbelow g hg
  rw [State.freeFamily, hlow, Option.getD_some]

/-! ### The checks and the clamp -/

theorem makeParamsOk_iff {v tenant size : Nat} {mask : BitVec 8} :
    makeParamsOk v tenant size mask = true ↔
      v ≤ 1023 ∧ tenant ≤ 255 ∧ 1 ≤ size ∧ size ≤ 1048576 ∧ mask ≠ 0 := by
  simp [makeParamsOk, and_assoc, Nat.lt_succ_iff]

/-- A volume number is set aside, for a request that is not itself held, by any held VOL-CLONE of it (R135). -/
theorem State.setAside_none_iff {v : Nat} :
    s.setAside v none = true ↔ ∃ x ∈ s.held, ∃ p, x.req = .volClone v p := by
  simp only [State.setAside, List.any_eq_true]
  refine exists_congr fun x => and_congr_right fun _ => ?_
  cases x.req <;> simp

theorem clampMark_eq (m : Nat) :
    clampMark m = if m = 0 then 0 else if m < 50 then 50 else if 100 < m then 100 else m := by
  unfold clampMark
  split_ifs <;> omega

/-! ### The request once it is taken -/

variable {v tenant size quota mark : Nat} {mask : BitVec 8}

theorem State.replyWords_makeVolume_openTag (ws : List Nat) :
    ((s.openTag h t).makeVolume v tenant size quota mask mark).replyWords h t ws =
      (s.makeVolume v tenant size quota mask mark).replied h t .ok ws :=
  State.reply_of_openTag .ok (.words ws) rfl

theorem exec_volMake (hr : s.ready h t) :
    exec (.volMake h t v tenant size quota mask mark) s = .next (
      if ¬makeParamsOk v tenant size mask = true then s.refused h t .badParam
      else if (s.volume v).state ≠ .free then s.refused h t .exists_
      else if s.setAside v none = true then s.refused h t .volumeBusy
      else (s.makeVolume v tenant size quota mask mark).replied h t .ok
        [min quota size, clampMark mark, s.freeFamily]) := by
  obtain ⟨hup, hfree⟩ := hr
  calc exec (.volMake h t v tenant size quota mask mark) s
    _ = .next ((s.openTag h t).judge h t
          [failIf (!makeParamsOk v tenant size mask) .badParam, failIf ((s.volume v).state ≠ .free) .exists_,
            failIf (s.setAside v none) .volumeBusy]
          (((s.openTag h t).makeVolume v tenant size quota mask mark).replyWords h t
            [min quota size, clampMark mark, s.freeFamily])) := congrArg _ (State.take_up false _ hup hfree)
    _ = _ := by
      simp only [State.judge_failIf, State.judge_nil, State.refuse_openTag_eq_refused,
        State.replyWords_makeVolume_openTag, Bool.not_eq_true', Bool.not_eq_true, decide_eq_true_eq]

/-- Settles O7: the checks of R135 in order, then the record, which the model writes with the lowest free family. -/
theorem volMakeWritesRecord : Obligations.VolMakeWritesRecord := by
  intro h t v tn size quota mask mark s hr
  dsimp only
  rw [exec_volMake hr, ← makeParamsOk_iff, ← State.setAside_none_iff]
  refine ⟨fun hbad => by rw [if_pos hbad], fun hok => ⟨fun hused => ?_, fun hfree => ⟨fun hheld => ?_, ?_⟩⟩⟩
  · rw [if_neg (not_not.mpr hok), if_pos hused]
  · rw [if_neg (not_not.mpr hok), if_neg (not_not.mpr hfree), if_pos hheld]
  · intro hnone f ⟨hlt, hzero⟩ hlow
    have hset : ¬s.setAside v none = true := fun ha =>
      let ⟨x, hx, p, hp⟩ := State.setAside_none_iff.mp ha
      hnone x hx p hp
    have hfam : s.freeFamily = f :=
      State.freeFamily_eq hlt hzero fun g hg hz => hlow g hg ⟨hg.trans hlt, hz⟩
    rw [if_neg (not_not.mpr hok), if_neg (not_not.mpr hfree), if_neg hset, ← clampMark_eq, State.makeVolume, hfam]
    rfl

end Sys2Proof.Machine
end

section
/-! PROOFS. The pin (R142): no command but a restart and HOLD-PIN changes it. The settling of an event and the shared
operations below it keep it (`State.kept`, Laws/Kept); here follow the operations that keep less than that, and then
every command. -/

namespace Sys2Proof.Machine

variable {s u : State} {h : Head} {t : Tag}

theorem State.pin_of_kept (hk : u.kept = s.kept) : u.pin = s.pin := congrArg Prod.fst hk

/-- A fold of steps that each keep what is observed keeps it. -/
theorem foldl_keeps {α β γ : Type} (obs : β → γ) (f : β → α → β) (hf : ∀ x a, obs (f x a) = obs x) (l : List α)
    (x : β) : obs (l.foldl f x) = obs x := by
  induction l generalizing x with
  | nil => rfl
  | cons a l ih => rw [List.foldl_cons, ih, hf]

theorem Ev.pin_apart {α : Type} (f : Ev → α → Ev) (hf : ∀ ev x, (f ev x).st.pin = ev.st.pin) (l : List α) (ev : Ev) :
    (Ev.apart f l ev).st.pin = ev.st.pin := by
  induction l generalizing ev with
  | nil => rfl
  | cons x l ih => exact (ih (f ev x)).trans (hf ev x)

section Operations

variable (s : State) (ev : Ev)

/-! ### What `State.kept` says of the pin -/

@[simp] theorem State.refuse_pin (h : Head) (t : Tag) (st : Status) : (s.refuse h t st).pin = s.pin := rfl
@[simp] theorem State.replyWords_pin (h : Head) (t : Tag) (ws : List Nat) : (s.replyWords h t ws).pin = s.pin := rfl
@[simp] theorem State.reach_pin (d : Nat) : (s.reach d).pin = s.pin := rfl

@[simp] theorem State.answer_pin (w : Waiter) (st : Status) (b : ReplyBody) : (s.answer w st b).pin = s.pin :=
  State.pin_of_kept (s.kept_answer w st b)
@[simp] theorem State.shelfNotice_pin (k : ShelfNo) (d : Nat) : (s.shelfNotice k d).pin = s.pin :=
  State.pin_of_kept (s.kept_shelfNotice k d)
@[simp] theorem State.setHeadJob_pin (j : Job) : (s.setHeadJob j).pin = s.pin :=
  State.pin_of_kept (s.kept_setHeadJob j)
@[simp] theorem Ev.finish_pin : ev.finish.pin = ev.st.pin := State.pin_of_kept ev.kept_finish
@[simp] theorem Ev.cowFailed_pin (c : Nat) (cause : CopyFail) : (ev.cowFailed c cause).st.pin = ev.st.pin :=
  State.pin_of_kept (ev.kept_cowFailed c cause)
@[simp] theorem Ev.leaveHeldIf_pin (p : Held → Bool) (st : Option Status) :
    (ev.leaveHeldIf p st).st.pin = ev.st.pin :=
  State.pin_of_kept (ev.kept_leaveHeldIf p st)
@[simp] theorem Ev.stripHead_pin (h : Head) : (ev.stripHead h).st.pin = ev.st.pin :=
  State.pin_of_kept (ev.kept_stripHead h)
@[simp] theorem State.markFenced_pin (h : Head) : (s.markFenced h).pin = s.pin :=
  State.pin_of_kept (s.kept_markFenced h)
@[simp] theorem State.markDetached_pin (h : Head) : (s.markDetached h).pin = s.pin :=
  State.pin_of_kept (s.kept_markDetached h)

@[simp] theorem State.notify_pin (h : Head) (x : Notice) : (s.notify h x).pin = s.pin := by
  unfold State.notify
  split
  · rfl
  · split
    · rfl
    · rfl
    · split <;> rfl

/-! ### Head links (R165, R167, R92, R175) -/

theorem State.linkUp_pin (h : Head) : (s.linkUp h).pin = s.pin := by
  unfold State.linkUp
  split <;> simp

theorem State.linkLoss_pin (h : Head) : (s.linkLoss h).pin = s.pin := by
  unfold State.linkLoss
  split
  · rfl
  · simp [Ev.loseHead]

theorem State.discardFrame_pin (h : Head) (bytes : List Byte) : (s.discardFrame h bytes).pin = s.pin := by
  unfold State.discardFrame
  split <;> rfl

theorem Ev.revokeExpiry_pin (r : Rev) : (ev.revokeExpiry r).st.pin = ev.st.pin :=
  Ev.pin_apart _ (fun ev h => by simp [Ev.fenceHead]) _ ev

@[simp] theorem State.sendPending_pin (h : Head) (c : NoticeClass) : (s.sendPending h c).pin = s.pin := by
  unfold State.sendPending
  split <;> rfl

theorem State.noteMask_pin (h : Head) (t : Tag) (m : BitVec 16) : (s.noteMask h t m).pin = s.pin := by
  simp [State.noteMask, maskableClasses]

/-! ### Shelves: their links, their loss, their answers (R21 to R28, R119, R122) -/

@[simp] theorem Ev.loseShelf_pin (k : ShelfNo) (late : Option Order) : (ev.loseShelf k late).st.pin = ev.st.pin := by
  unfold Ev.loseShelf
  dsimp only
  rw [Ev.st_map, State.shelfNotice_pin, Ev.pin_apart _ fun ev c => ev.cowFailed_pin c .link]
  split <;> simp

@[simp] theorem Ev.failJoin_pin (k : ShelfNo) (st : Status) : (ev.failJoin k st).st.pin = ev.st.pin := by
  unfold Ev.failJoin
  dsimp only
  split <;> simp

@[simp] theorem Ev.toOffline_pin (k : ShelfNo) : (ev.toOffline k).st.pin = ev.st.pin := by
  simp [Ev.toOffline]

theorem Ev.shelfLinkDown_pin (k : ShelfNo) : (ev.shelfLinkDown k).st.pin = ev.st.pin := by
  unfold Ev.shelfLinkDown
  dsimp only
  split <;> simp

theorem Ev.shelfLinkUp_pin (k : ShelfNo) : (ev.shelfLinkUp k).st.pin = ev.st.pin := by
  unfold Ev.shelfLinkUp
  dsimp only
  split <;> simp

theorem State.tuneShelf_pin (h : Head) (t : Tag) (k : ShelfNo) (x : Settings) :
    (s.tuneShelf h t k x).pin = s.pin := by
  unfold State.tuneShelf
  dsimp only
  split <;> simp

@[simp] theorem Ev.joinDone_pin (k : ShelfNo) : (ev.joinDone k).st.pin = ev.st.pin := by
  unfold Ev.joinDone
  dsimp only
  split <;> simp

/-- What the owner of an order does on its answer keeps the pin (R119). -/
def OwnerKeepsPin (owner : Order → Option (Ev → Ev)) : Prop :=
  ∀ o act, owner o = some act → ∀ ev : Ev, (act ev).st.pin = ev.st.pin

theorem State.answerTo_pin (k : ShelfNo) (otag serial : Nat) {owner : Order → Option (Ev → Ev)}
    (ho : OwnerKeepsPin owner) : (s.answerTo k otag serial owner).pin = s.pin := by
  unfold State.answerTo
  split
  · rfl
  · split
    · rfl
    · next act hact => simp [ho _ act hact]

theorem zeroDoneAct_keepsPin (k : ShelfNo) : OwnerKeepsPin (zeroDoneAct k) := by
  rintro (_ | _ | _ | _) _ ⟨⟩ ev
  rfl

theorem zeroFaultAct_keepsPin (k : ShelfNo) : OwnerKeepsPin (zeroFaultAct k) := by
  rintro (_ | _ | _ | _) _ ⟨⟩ ev
  rfl

theorem copyDoneAct_keepsPin : OwnerKeepsPin copyDoneAct := by
  rintro (_ | ⟨_, _, _, c⟩ | _ | _) _ ⟨⟩ ev
  exact State.pin_of_kept (ev.kept_cowCopied c)

theorem copyFaultAct_keepsPin (k : ShelfNo) (cause : FaultCause) : OwnerKeepsPin (copyFaultAct k cause) := by
  cases cause <;>
  · rintro (_ | _ | _ | _) _ ⟨⟩ ev
    simp

theorem labelReadDoneAct_keepsPin (k : ShelfNo) (label : Nat) : OwnerKeepsPin (labelReadDoneAct k label) := by
  rintro (_ | _ | _ | _) _ ⟨⟩ ev
  rw [Ev.st_map]
  split <;> simp

theorem labelReadFaultAct_keepsPin (k : ShelfNo) : OwnerKeepsPin (labelReadFaultAct k) := by
  rintro (_ | _ | _ | _) act hact ev
  case labelRead =>
    obtain rfl : (fun ev : Ev => ev.toOffline k) = act := Option.some.inj hact
    exact ev.toOffline_pin k
  all_goals cases hact

theorem labelWriteDoneAct_keepsPin (k : ShelfNo) : OwnerKeepsPin (labelWriteDoneAct k) := by
  rintro (_ | _ | _ | _) _ ⟨⟩ ev
  exact ev.joinDone_pin k

theorem labelWriteFaultAct_keepsPin (k : ShelfNo) : OwnerKeepsPin (labelWriteFaultAct k) := by
  rintro (_ | _ | _ | _) _ ⟨⟩ ev
  exact ev.failJoin_pin k .media

theorem Ev.orderTimeout_pin (k : ShelfNo) (f : InFlight) : (ev.orderTimeout k f).st.pin = ev.st.pin := by
  unfold Ev.orderTimeout
  dsimp only
  split
  · simp
  · cases f.order <;> simp [Ev.timedOut]

/-! ### Copy steps and job requests (R158 to R161) -/

theorem State.addRef_pin (e : MapEntry) : (s.addRef e).pin = s.pin := by
  cases e <;> rfl

theorem State.copyPage_pin (j : Job) (v slot : Nat) (p : Page) : (s.copyPage j v slot p).pin = s.pin := by
  unfold State.copyPage
  dsimp only
  rw [State.pin_of_kept (State.kept_markTest _ _), State.setHeadJob_pin, State.updTenant_pin,
    foldl_keeps State.pin _ fun s (q : Nat × MapEntry) => s.addRef_pin q.2]
  rfl

theorem State.cloneEnd_pin (j : Job) (v parent : Nat) : (s.cloneEnd j v parent).pin = s.pin :=
  State.pin_of_kept (by simp [State.cloneEnd])

theorem State.cloneTest_pin (v parent : Nat) : (s.cloneTest v parent).pin = s.pin := by
  unfold State.cloneTest
  split
  · rfl
  · split
    · exact State.cloneEnd_pin _ _ _ _
    · rfl

theorem State.cloneStep_pin (j : Job) (v parent : Nat) : (s.cloneStep j v parent).pin = s.pin := by
  unfold State.cloneStep
  split
  · exact State.cloneEnd_pin _ _ _ _
  · rw [State.cloneTest_pin, State.copyPage_pin]

theorem State.pauseHead_pin (h : Head) (t : Tag) (j : Job) : (s.pauseHead h t j).pin = s.pin := by
  unfold State.pauseHead
  split
  · rfl
  · rfl
  · split
    · rfl
    · split
      · simp
      · rfl

theorem State.resumeHead_pin (h : Head) (t : Tag) (j : Job) : (s.resumeHead h t j).pin = s.pin := by
  unfold State.resumeHead
  split <;> simp

/-! ### Grants returned, and a volume thawed (R70, R88, R140) -/

theorem State.grantDrop_pin (h : Head) (t : Tag) (v e : Nat) : (s.grantDrop h t v e).pin = s.pin := by
  refine State.pin_of_kept ?_
  unfold State.grantDrop
  dsimp only
  split <;> simp

theorem State.revokeAck_pin (h : Head) (t : Tag) (v e : Nat) : (s.revokeAck h t v e).pin = s.pin := by
  refine State.pin_of_kept ?_
  unfold State.revokeAck
  split <;> simp

theorem State.thaw_pin (v : Nat) : (s.thaw v).pin = s.pin := by
  unfold State.thaw
  split <;> rfl

end Operations

/-! ### A request: its taking, its checks, its shelf (R169, R134) -/

theorem State.pin_take_of_served {served : Bool} {serve : State → State}
    (hs : (serve (s.openTag h t)).pin = s.pin) : (s.take h t served serve).pin = s.pin := by
  unfold State.take
  split
  · rfl
  · split <;> simp [hs]
  · split
    · rfl
    · split <;> simp [hs]

theorem State.pin_take {served : Bool} {serve : State → State} (hs : ∀ s, (serve s).pin = s.pin) :
    (s.take h t served serve).pin = s.pin :=
  State.pin_take_of_served (hs _)

theorem State.pin_judge {checks : List (Option Status)} (hu : u.pin = s.pin) :
    (s.judge h t checks u).pin = s.pin := by
  unfold State.judge
  split
  · rfl
  · exact hu

theorem State.pin_ite {p : Prop} [Decidable p] {v : State} (hu : u.pin = s.pin) (hv : v.pin = s.pin) :
    (if p then u else v).pin = s.pin := by
  split
  · exact hu
  · exact hv

theorem State.pin_onShelf {k : Nat} {serve : ShelfNo → State} (hs : ∀ k, (serve k).pin = s.pin) :
    (s.onShelf h t k serve).pin = s.pin := by
  unfold State.onShelf
  split
  · rfl
  · exact hs _

/-! ### Every command -/

/-- A command leaves the pin as it was. -/
def KeepsPin (s : State) : Host.Outcome State Fault Refusal → Prop
  | .next u => u.pin = s.pin
  | .fault _ | .refused _ => True

theorem execJobPause_keepsPin (h : Head) (t : Tag) : KeepsPin s (execJobPause h t s) := by
  refine State.pin_take fun s => ?_
  split
  · rfl
  · exact s.pauseHead_pin h t _

theorem execJobGo_keepsPin (h : Head) (t : Tag) : KeepsPin s (execJobGo h t s) := by
  refine State.pin_take fun s => ?_
  split
  · rfl
  · exact s.resumeHead_pin h t _

theorem execOrderTimeout_keepsPin (k : ShelfNo) (otag : Nat) : KeepsPin s (execOrderTimeout k otag s) := by
  unfold execOrderTimeout KeepsPin
  dsimp only
  split
  · rfl
  · simp [Ev.orderTimeout_pin]

theorem execReverifyExpiry_keepsPin (k : ShelfNo) : KeepsPin s (execReverifyExpiry k s) := by
  unfold execReverifyExpiry KeepsPin
  dsimp only
  split
  · rfl
  · split <;> simp

theorem execSettleExpiry_keepsPin (k : ShelfNo) : KeepsPin s (execSettleExpiry k s) := by
  unfold execSettleExpiry KeepsPin
  dsimp only
  split <;> simp

theorem execScrubStepExpiry_keepsPin (k : ShelfNo) : KeepsPin s (execScrubStepExpiry k s) := by
  unfold execScrubStepExpiry KeepsPin
  dsimp only
  split
  · rfl
  · split
    · split <;> simp
    · rfl

theorem execRevokeExpiry_keepsPin (v e : Nat) : KeepsPin s (execRevokeExpiry v e s) := by
  unfold execRevokeExpiry KeepsPin
  dsimp only
  split
  · rfl
  · simp [Ev.revokeExpiry_pin]

theorem execCloneCopyStep_keepsPin : KeepsPin s (execCloneCopyStep s) := by
  unfold execCloneCopyStep KeepsPin
  dsimp only
  split
  · rfl
  · split
    · exact State.pin_ite (s.cloneStep_pin _ _ _) rfl
    all_goals rfl

/-- The commands that write the pin (R142): a restart clears it, HOLD-PIN sets it. -/
def writesPin : Instr → Bool
  | .powerOn _ | .resetLine _ | .holdPin _ _ => true
  | _ => false

/-- R142, command by command: what a command does to the pin is what its owner does, once the request has been taken and
has passed its checks. -/
theorem exec_keepsPin (c : Instr) (hc : writesPin c = false) : KeepsPin s (exec c s) := by
  cases c with
  | powerOn | resetLine | holdPin => cases hc
  | linkUp h => exact s.linkUp_pin h
  | linkLoss h => exact s.linkLoss_pin h
  | frameDiscard h bytes => exact s.discardFrame_pin h bytes
  | badKind => exact State.pin_ite rfl (State.pin_take fun _ => rfl)
  | readMap | writeMap => exact State.pin_take fun s => State.pin_ite (State.pin_of_kept (by simp)) rfl
  | grantDrop h t v e => exact State.pin_take fun s => State.pin_ite (s.grantDrop_pin h t v e) rfl
  | revokeAck h t v e => exact State.pin_take fun s => State.pin_ite (s.revokeAck_pin h t v e) rfl
  | volMake | volGrow | volQuota | volMark | volMask | volHold | volUnhold | holdAll | unholdAll | volRead
  | tenantSet | tenantRead =>
    exact State.pin_take fun s => State.pin_judge rfl
  | volFreeze | volClone | volTrim => exact State.pin_take fun s => State.pin_judge (State.pin_of_kept (by simp))
  | volThaw h t v => exact State.pin_take fun s => State.pin_judge (s.thaw_pin v)
  | volDrop h t v =>
    exact State.pin_take fun s => State.pin_judge (State.pin_of_kept (by simp [State.dropVolume]))
  | jobRead | rejoin | partRead | notePeek | noteTake | faultPop => exact State.pin_take fun _ => rfl
  | shelfJoin => exact State.pin_take fun s => State.pin_onShelf fun k => State.pin_judge (by simp)
  | shelfTune h t =>
    exact State.pin_take fun s => State.pin_onShelf fun k => State.pin_judge (s.tuneShelf_pin h t k _)
  | shelfPart => exact State.pin_take fun s => State.pin_onShelf fun k => State.pin_judge rfl
  | shelfRead => exact State.pin_take fun s => State.pin_onShelf fun _ => rfl
  | jobPause h t => exact execJobPause_keepsPin h t
  | jobGo h t => exact execJobGo_keepsPin h t
  | noteMask h t m => exact State.pin_take fun s => s.noteMask_pin h t m
  | shelfLinkDown k => exact (Ev.finish_pin _).trans ((Ev.start s).shelfLinkDown_pin k)
  | shelfLinkUp k => exact State.pin_ite rfl ((Ev.finish_pin _).trans ((Ev.start s).shelfLinkUp_pin k))
  | zeroDone k otag serial => exact s.answerTo_pin k otag serial (zeroDoneAct_keepsPin k)
  | zeroFault k otag serial => exact s.answerTo_pin k otag serial (zeroFaultAct_keepsPin k)
  | copyDone k otag serial => exact s.answerTo_pin k otag serial copyDoneAct_keepsPin
  | copyFault k otag serial cause => exact s.answerTo_pin k otag serial (copyFaultAct_keepsPin k cause)
  | labelReadDone k otag serial label => exact s.answerTo_pin k otag serial (labelReadDoneAct_keepsPin k label)
  | labelReadFault k otag serial => exact s.answerTo_pin k otag serial (labelReadFaultAct_keepsPin k)
  | labelWriteDone k otag serial => exact s.answerTo_pin k otag serial (labelWriteDoneAct_keepsPin k)
  | labelWriteFault k otag serial => exact s.answerTo_pin k otag serial (labelWriteFaultAct_keepsPin k)
  | lateAnswer => rfl
  | orderTimeout k otag => exact execOrderTimeout_keepsPin k otag
  | reverifyExpiry k => exact execReverifyExpiry_keepsPin k
  | settleExpiry k => exact execSettleExpiry_keepsPin k
  | scrubStepExpiry k => exact execScrubStepExpiry_keepsPin k
  | revokeExpiry v e => exact execRevokeExpiry_keepsPin v e
  | jobStep => exact State.pin_ite (State.pin_of_kept (by simp)) rfl
  | cloneCopyStep => exact execCloneCopyStep_keepsPin

end Sys2Proof.Machine
end

section
/-! PROOFS. A restart and the hold flags (R11, R13): start-up recovery keeps every hold flag, and the event of the
start then only serves shelves, since no request is held, no pass runs and no record is freed. -/

namespace Sys2Proof.Machine

/-! ### Reading a table whose records are all changed -/

theorem Table.get_map {α : Type} {d : α} {f : α → α} (hd : f d = d) (t : Table α) (k : Nat) :
    Table.get d (t.map fun p => (p.1, f p.2)) k = f (Table.get d t k) := by
  induction t with
  | nil => exact hd.symm
  | cons p rest ih =>
    obtain ⟨i, x⟩ := p
    by_cases hi : i = k
    · simp [Table.get, Table.find?, hi]
    · simpa [Table.get, Table.find?, hi] using ih

/-! ### Settling with nothing held -/

/-- The states that differ from `s` in the shelves and in what has left the part, and in nothing else. -/
def State.ServedTo (s u : State) : Prop := ∃ shelves sent, u = { s with shelves := shelves, sent := sent }

theorem State.ServedTo.refl (s : State) : s.ServedTo s := ⟨s.shelves, s.sent, rfl⟩

theorem State.ServedTo.trans {s u w : State} (hsu : s.ServedTo u) (huw : u.ServedTo w) : s.ServedTo w := by
  obtain ⟨_, _, rfl⟩ := hsu
  obtain ⟨shelves, sent, rfl⟩ := huw
  exact ⟨shelves, sent, rfl⟩

theorem State.ServedTo.held {s u : State} (hu : s.ServedTo u) : u.held = s.held := by
  obtain ⟨_, _, rfl⟩ := hu
  rfl

theorem State.ServedTo.volumes {s u : State} (hu : s.ServedTo u) : u.volumes = s.volumes := by
  obtain ⟨_, _, rfl⟩ := hu
  rfl

theorem State.servedTo_emitOrders (k : ShelfNo) (l : List InFlight) (s : State) :
    s.ServedTo (l.foldl (fun s x => s.emit (.order k x.tag x.serial x.order)) s) := by
  induction l generalizing s with
  | nil => exact .refl s
  | cons x l ih => exact .trans ⟨s.shelves, _, rfl⟩ (ih _)

section

variable (ev : Ev)

/-- The scrub engine and the arbiter of a shelf change that shelf and send orders (R124, R127). -/
theorem Ev.servedTo_serveShelf (k : ShelfNo) : ev.st.ServedTo (ev.serveShelf k).st := by
  rw [Ev.serveShelf_st]
  exact .trans ⟨_, ev.st.sent, rfl⟩ (State.servedTo_emitOrders k _ _)

theorem Ev.servedTo_foldl_serveShelf (l : List ShelfNo) : ev.st.ServedTo (l.foldl Ev.serveShelf ev).st := by
  induction l generalizing ev with
  | nil => exact .refl _
  | cons k l ih => exact (ev.servedTo_serveShelf k).trans (ih _)

theorem Ev.servedTo_serveShelves : ev.st.ServedTo ev.serveShelves.st :=
  Ev.servedTo_foldl_serveShelf { ev with run := [] } ev.run

theorem Ev.servedTo_serveFixed : ev.st.ServedTo ev.serveFixed.st :=
  Ev.servedTo_foldl_serveShelf { ev with run := ev.run.filter fun k => !(ev.st.shelf k).dispatchesFixed } _

/-- With nothing held, the rounds of an event only serve shelves (R73, R120). -/
theorem Ev.servedTo_rounds (fuel : Nat) (hheld : ev.st.held = []) : ev.st.ServedTo (Ev.rounds fuel ev).st := by
  induction fuel generalizing ev with
  | zero => exact .refl _
  | succ fuel ih =>
    unfold Ev.rounds
    rw [Ev.heldPass_quiet ev _ (by simp [hheld])]
    dsimp only
    split
    · exact .refl _
    · have hserved := ev.servedTo_serveShelves
      exact hserved.trans (ih _ (hserved.held.trans hheld))

/-- An event that frees no record, gives no pass cause and finds nothing held leaves the volumes as they are. -/
theorem Ev.finish_volumes_of_no_held (hrel : Reason.revokeRoom ∉ ev.rel) (hkick : ev.kick = []) (hcow : ev.kickCow = [])
    (hheld : ev.st.held = []) : ev.finish.volumes = ev.st.volumes := by
  have hfixed := ev.servedTo_serveFixed
  have hserved := hfixed.trans (Ev.servedTo_rounds _ roundFuel (hfixed.held.trans hheld))
  have hno : ¬ev.rel.contains .revokeRoom = true := by simpa using hrel
  unfold Ev.finish
  dsimp only
  rw [Ev.handOut_quiet ev hrel hkick hcow, if_neg hno]
  obtain ⟨_, _, hreclaim, -, -⟩ := State.reclaimAt_cases (Ev.rounds roundFuel ev.serveFixed).st ev.lead
  rw [hreclaim]
  exact hserved.volumes

end

/-! ### The hold flag of a volume through start-up recovery (R13, R117, R164) -/

/-- The hold flag of a volume (R141). -/
def State.holdOf (s : State) (v : Nat) : Bool := (s.volume v).hold

variable (s : State)

theorem State.holdOf_of_volumes {u : State} {v : Nat} (hu : u.volumes = s.volumes) : u.holdOf v = s.holdOf v := by
  simp only [State.holdOf, State.volume, hu]

theorem State.holdOf_setVolume (v w : Nat) {x : Volume} (hx : x.hold = s.holdOf w) :
    (s.setVolume w x).holdOf v = s.holdOf v := by
  unfold State.holdOf
  by_cases hv : v = w
  · subst hv
    rw [State.volume_setVolume_same, hx, State.holdOf]
  · rw [State.volume_setVolume_ne s x hv]

theorem State.holdOf_convertClone (v c parent : Nat) : (s.convertClone c parent).holdOf v = s.holdOf v :=
  calc (s.convertClone c parent).holdOf v
    _ = ((s.setVolume c { s.volume c with state := .deleting }).updVolume parent Volume.released).holdOf v := rfl
    _ = (s.setVolume c { s.volume c with state := .deleting }).holdOf v := State.holdOf_setVolume _ _ _ rfl
    _ = s.holdOf v := s.holdOf_setVolume _ _ rfl

/-- The conversion of the CLONE jobs keeps what the conversion of each keeps, and the queue does not hold (R164). -/
theorem State.convertClones_keeps {α : Type} (obs : State → α)
    (hclone : ∀ s c parent, obs (State.convertClone s c parent) = obs s)
    (hjobs : ∀ (s : State) jobs, obs { s with jobs := jobs } = obs s) : obs s.convertClones = obs s :=
  (hjobs _ _).trans <| foldl_keeps obs _ (fun s j => by
    split
    · exact hclone s _ _
    all_goals rfl) s.jobs s

theorem State.recover_held (links : BitVec 8) : (s.recover links).held = s.held :=
  State.convertClones_keeps _ State.held (fun _ _ _ => rfl) fun _ _ => rfl

theorem State.recover_pin (links : BitVec 8) : (s.recover links).pin = s.pin :=
  State.convertClones_keeps _ State.pin (fun _ _ _ => rfl) fun _ _ => rfl

theorem State.holdOf_recover (links : BitVec 8) (v : Nat) : (s.recover links).holdOf v = s.holdOf v :=
  calc (s.recover links).holdOf v
    _ = ({ s with volumes := s.volumes.map fun (p : Nat × Volume) => (p.1, p.2.recovered) } : State).holdOf v :=
        State.convertClones_keeps _ (fun u => u.holdOf v) (fun u => u.holdOf_convertClone v) fun _ _ => rfl
    _ = (s.volume v).recovered.hold := congrArg Volume.hold (Table.get_map rfl s.volumes v)
    _ = s.holdOf v := rfl

theorem State.holdOf_restart (cause : StartCause) (links : BitVec 8) (v : Nat) :
    (s.restart cause links).holdOf v = s.holdOf v := by
  have hst : (allShelves.foldl Ev.runShelf (Ev.start ((s.emptyVolatile cause).recover links))).st =
      (s.emptyVolatile cause).recover links := rfl
  have hheld : ((s.emptyVolatile cause).recover links).held = [] := State.recover_held _ links
  have hvolumes := Ev.finish_volumes_of_no_held
    (allShelves.foldl Ev.runShelf (Ev.start ((s.emptyVolatile cause).recover links)))
    List.not_mem_nil rfl rfl (by rw [hst, hheld])
  calc (s.restart cause links).holdOf v
    _ = ((s.emptyVolatile cause).recover links).holdOf v := State.holdOf_of_volumes _ hvolumes
    _ = (s.emptyVolatile cause).holdOf v := State.holdOf_recover _ links v
    _ = s.holdOf v := rfl

theorem State.restart_pin (cause : StartCause) (links : BitVec 8) : (s.restart cause links).pin = false := by
  unfold State.restart
  rw [Ev.finish_pin, Ev.st_foldl _ Ev.st_runShelf, Ev.st_start, State.recover_pin]
  rfl

end Sys2Proof.Machine
end

section
/-! PROOFS. The hold requests and HOLD-PIN (R141, R142). -/

namespace Sys2Proof.Machine

variable {s : State} {h : Head} {t : Tag} {v : Nat}

/-! ### The checks of R141 -/

theorem VolState.holdGate_eq (x : VolState) : x.holdGate = failIf (x = .free) .noVolume := by
  cases x <;> rfl

theorem State.judge_hold (serve : State) :
    s.judge h t [volParam v, failIf s.pin .pinned, (s.volume v).state.holdGate] serve =
      if 1023 < v then s.refuse h t .badParam
      else if s.pin = true then s.refuse h t .pinned
      else if (s.volume v).state = .free then s.refuse h t .noVolume
      else serve := by
  have hv : (!decide (v < Config.volumes)) = true ↔ 1023 < v := by simp; omega
  simp only [volParam, VolState.holdGate_eq, State.judge_failIf, State.judge_nil, hv, decide_eq_true_eq]

/-! ### One volume -/

theorem State.replyWords_setHold_openTag (flag : Bool) (ws : List Nat) :
    ((s.openTag h t).setHold v flag).replyWords h t ws = (s.setHold v flag).replied h t .ok ws :=
  State.reply_of_openTag .ok (.words ws) rfl

/-- VOL-HOLD and VOL-UNHOLD, the flag they write being the one difference. -/
theorem State.take_setHold (flag : Bool) (hr : s.ready h t) :
    (s.take h t false fun s =>
      s.judge h t [volParam v, failIf s.pin .pinned, (s.volume v).state.holdGate]
        ((s.setHold v flag).replyWords h t [])) =
      if 1023 < v then s.refused h t .badParam
      else if s.pin = true then s.refused h t .pinned
      else if (s.volume v).state = .free then s.refused h t .noVolume
      else (s.setHold v flag).replied h t .ok [] := by
  obtain ⟨hup, hfree⟩ := hr
  rw [State.take_up false _ hup hfree, State.judge_hold, State.replyWords_setHold_openTag]
  simp only [State.refuse_openTag_eq_refused, State.openTag_pin, State.openTag_volume]

/-! ### Every volume -/

/-- A volume after HOLD-ALL or UNHOLD-ALL: a FREE record stays as it is (R141). -/
def Volume.heldAs (flag : Bool) (r : Volume) : Volume := if r.state = .free then r else { r with hold := flag }

theorem State.volume_setHoldAll (flag : Bool) (v : Nat) :
    (s.setHoldAll flag).volume v = (s.volume v).heldAs flag := by
  have hmap : (fun p : Nat × Volume => if p.2.state = .free then p else (p.1, { p.2 with hold := flag })) =
      fun p => (p.1, p.2.heldAs flag) := by
    funext p
    unfold Volume.heldAs
    split <;> rfl
  rw [State.volume, State.setHoldAll, hmap]
  exact Table.get_map rfl s.volumes v

theorem State.holdDiffers_eq (flag : Bool) :
    s.holdDiffers flag = (s.volumes.filter fun p => p.2.state ≠ .free ∧ p.2.hold ≠ flag).length := by
  rw [State.holdDiffers, List.countP_eq_length_filter]
  simp only [Bool.decide_and]

theorem State.replyWords_setHoldAll_openTag (flag : Bool) (ws : List Nat) :
    ((s.openTag h t).setHoldAll flag).replyWords h t ws = (s.setHoldAll flag).replied h t .ok ws :=
  State.reply_of_openTag .ok (.words ws) rfl

/-- HOLD-ALL and UNHOLD-ALL, the flag they write being the one difference. -/
theorem State.take_setHoldAll (flag : Bool) (hr : s.ready h t) :
    (s.take h t false fun s =>
      s.judge h t [failIf s.pin .pinned] ((s.setHoldAll flag).replyWords h t [s.holdDiffers flag])) =
      if s.pin = true then s.refused h t .pinned
      else (s.setHoldAll flag).replied h t .ok [s.holdDiffers flag] := by
  obtain ⟨hup, hfree⟩ := hr
  rw [State.take_up false _ hup hfree, State.judge_failIf, State.judge_nil, State.replyWords_setHoldAll_openTag,
    State.refuse_openTag_eq_refused]
  rfl

theorem exec_holdAll (flag : Bool) (hr : s.ready h t) :
    exec (if flag then .holdAll h t else .unholdAll h t) s = .next (
      if s.pin = true then s.refused h t .pinned
      else (s.setHoldAll flag).replied h t .ok [s.holdDiffers flag]) := by
  cases flag with
  | true => exact congrArg _ (State.take_setHoldAll true hr)
  | false => exact congrArg _ (State.take_setHoldAll false hr)

/-! ### The pin -/

theorem exec_holdPin (hr : s.ready h t) :
    exec (.holdPin h t) s = .next ({ s with pin := true }.replied h t .ok []) := by
  obtain ⟨hup, hfree⟩ := hr
  calc exec (.holdPin h t) s
    _ = .next (({ s.openTag h t with pin := true } : State).replyWords h t []) :=
        congrArg _ (State.take_up false _ hup hfree)
    _ = _ := congrArg _ (State.reply_of_openTag .ok (.words []) rfl)

/-- HOLD-PIN leaves a pin that is set as it is, whether or not the request is taken (R142, R169). -/
theorem exec_holdPin_keepsSet (hpin : s.pin = true) : KeepsPin s (exec (.holdPin h t) s) :=
  State.pin_take_of_served hpin.symm

/-- A set pin outlives every command but a restart (R142). -/
theorem exec_keepsSetPin {c : Instr} (hc : ∀ links, c ≠ .powerOn links ∧ c ≠ .resetLine links) (hpin : s.pin = true) :
    KeepsPin s (exec c s) := by
  cases hw : writesPin c with
  | false => exact exec_keepsPin c hw
  | true =>
    cases c with
    | powerOn links => exact absurd rfl (hc links).1
    | resetLine links => exact absurd rfl (hc links).2
    | holdPin h t => exact exec_holdPin_keepsSet hpin
    | _ => cases hw

/-- Settles O9: the four hold requests and HOLD-PIN by their equations, a restart by what start-up recovery and the
settling of its event keep, and the pin by `exec_keepsPin` over every other command. -/
theorem holdFlagsAndPin : Obligations.HoldFlagsAndPin := by
  refine ⟨fun h t v s hr => ⟨congrArg _ (State.take_setHold true hr), congrArg _ (State.take_setHold false hr)⟩,
    fun h t s hr => ?_, fun h t s hr => exec_holdPin hr, fun links s c hc => ?_, fun c s u hc hpin hu => ?_⟩
  · intro changed flag c
    have hexec : exec c s = _ := exec_holdAll flag hr
    refine ⟨fun hpin => by rw [hexec, if_pos hpin], fun hpin => ⟨(s.setHoldAll flag).volumes, ?_,
      fun v => State.volume_setHoldAll flag v⟩⟩
    rw [hexec, if_neg (by simp [hpin]), State.holdDiffers_eq]
    rfl
  · have hrestart (cause : StartCause) : (s.restart cause links).pin = false ∧
        ∀ v, ((s.restart cause links).volume v).hold = (s.volume v).hold :=
      ⟨s.restart_pin cause links, s.holdOf_restart cause links⟩
    rcases List.mem_pair.mp hc with rfl | rfl
    · exact ⟨_, rfl, hrestart .powerOn⟩
    · exact ⟨_, rfl, hrestart .resetLine⟩
  · have hkeeps : KeepsPin s (exec c s) := exec_keepsSetPin hc hpin
    rw [hu] at hkeeps
    exact hkeeps.trans hpin

end Sys2Proof.Machine
end

section
/-! PROOFS. PART-READ, VOL-READ and SHELF-READ (R171, R148, R30): each is answered in the event that takes it, from the
state as it stood before its tag was opened. -/

namespace Sys2Proof.Machine

variable {s : State} {h : Head} {t : Tag}

/-! ### PART-READ (R171) -/

/-- The taking of a request changes nothing of a head but its tags. -/
theorem State.head_openTag (k : Head) : ∃ tags, (s.openTag h t).head k = { s.head k with tags := tags } := by
  by_cases hk : k = h
  · subst hk
    exact ⟨t :: (s.head k).tags, State.head_updHead_same s k _⟩
  · exact ⟨(s.head k).tags, State.head_updHead_ne s _ hk⟩

theorem State.link_openTag (k : Head) : ((s.openTag h t).head k).link = (s.head k).link := by
  obtain ⟨tags, hhead⟩ := State.head_openTag (s := s) (h := h) (t := t) k
  rw [hhead]

theorem State.errors_openTag (k : Head) : ((s.openTag h t).head k).errors = (s.head k).errors := by
  obtain ⟨tags, hhead⟩ := State.head_openTag (s := s) (h := h) (t := t) k
  rw [hhead]

theorem State.partWords_openTag : (s.openTag h t).partWords h = s.partWords h := by
  simp only [State.partWords, State.link_openTag, State.errors_openTag]
  rfl

theorem exec_partRead (hr : s.reachable h t) :
    exec (.partRead h t) s = .next (s.replied h t .ok (s.partWords h)) := by
  obtain ⟨hlink, hfree⟩ := hr
  calc exec (.partRead h t) s
    _ = .next ((s.openTag h t).replyWords h t ((s.openTag h t).partWords h)) :=
        congrArg _ (State.take_served _ hlink hfree)
    _ = _ := by rw [State.partWords_openTag, State.replyWords_openTag]

/-! ### VOL-READ (R148) -/

theorem State.judge_volParam {v : Nat} (serve : State) :
    s.judge h t [volParam v] serve = if 1023 < v then s.refuse h t .badParam else serve := by
  have hv : (!decide (v < Config.volumes)) = true ↔ 1023 < v := by simp; omega
  simp only [volParam, State.judge_failIf, State.judge_nil, hv]

theorem exec_volRead (v : Nat) (hr : s.ready h t) :
    exec (.volRead h t v) s = .next (
      if 1023 < v then s.refused h t .badParam else s.replied h t .ok (s.volumeWords v)) := by
  obtain ⟨hup, hfree⟩ := hr
  calc exec (.volRead h t v) s
    _ = .next ((s.openTag h t).judge h t [volParam v] ((s.openTag h t).replyWords h t (s.volumeWords v))) :=
        congrArg _ (State.take_up false _ hup hfree)
    _ = _ := by rw [State.judge_volParam, State.refuse_openTag_eq_refused, State.replyWords_openTag]

/-! ### SHELF-READ (R30) -/

theorem exec_shelfRead (n : Nat) (hr : s.ready h t) :
    exec (.shelfRead h t n) s = .next ((s.openTag h t).onShelf h t n fun k => s.replied h t .ok (s.shelf k).words) := by
  obtain ⟨hup, hfree⟩ := hr
  calc exec (.shelfRead h t n) s
    _ = .next ((s.openTag h t).onShelf h t n fun k => (s.openTag h t).replyWords h t (s.shelf k).words) :=
        congrArg _ (State.take_up false _ hup hfree)
    _ = _ := by simp only [State.replyWords_openTag]

theorem Shelf.countState_eq (sh : Shelf) (st : SlotState) :
    sh.countState st = (sh.pet.filter fun p => p.state = st).length :=
  List.countP_eq_length_filter

/-- The word list of SHELF-READ with the number of slots in each PET state written as the length of a sublist. -/
theorem Shelf.words_eq (sh : Shelf) :
    let count (st : SlotState) : Nat := (sh.pet.filter fun p => p.state = st).length
    sh.words =
      [sh.state.code, sh.capacity, sh.label, sh.lowMark, sh.reserve, sh.baseLevel, sh.cond.code, sh.retired, sh.level,
        flagWord sh.linkUp, sh.timeouts, flagWord sh.settle.isSome, sh.freeList.length, sh.scrubQueue.length,
        count .free, count .inUse, count .scrubWait, count .scrubbing, count .copyTarget, count .retired,
        count .label] := by
  simp only [← Shelf.countState_eq]
  rfl

/-- Settles O5: the three requests by their equations; the word lists of PART-READ and VOL-READ are the model's with
the codes of R171 and R172 written out, that of SHELF-READ is `Shelf.words_eq`. -/
theorem readsReportPartVolumeAndShelf : Obligations.ReadsReportPartVolumeAndShelf := by
  refine ⟨fun h t s hr => exec_partRead hr, fun h t v s hr => exec_volRead v hr,
    fun h t n s hr => ⟨fun hn => ?_, fun k hk => ?_⟩⟩
  · rw [exec_shelfRead n hr, State.onShelf_out_of_range _ hn, State.refuse_openTag_eq_refused]
  · subst hk
    rw [exec_shelfRead _ hr, State.onShelf_val, Shelf.words_eq]
    rfl

end Sys2Proof.Machine
end
